-- ==== Sys2Proof/Word.lean ====
section
/-! DEFINITION. The widths of the core's values and their plainest arithmetic (00_scope.md R11). -/

namespace Sys2Proof

/-- A `u8`. -/
abbrev Byte := BitVec 8

/-- A `u16`: an address, a register pair, the program counter. -/
abbrev Word := BitVec 16

/-- `wrap8(x) = x mod 256` (R11). -/
def wrap8 (x : Nat) : Byte := BitVec.ofNat 8 x

/-- `wrap16(x) = x mod 65536` (R11). -/
def wrap16 (x : Nat) : Word := BitVec.ofNat 16 x

/-- `hi8 ++ lo8`, the 16-bit value `hi8 * 256 + lo8` (R11). -/
def cat (hi lo : Byte) : Word := hi ++ lo

/-- `sext_N(v)` (R11), defined there for completeness: no admitted instruction uses it. -/
def sext (n : Nat) (v : Byte) : BitVec n := v.signExtend n

/-- `zext_N(v)` (R11), defined there for completeness: no admitted instruction uses it. -/
def zext (n : Nat) (v : Byte) : BitVec n := v.setWidth n

end Sys2Proof
end

