-- ==== Sys2Proof/Config.lean ====
section
/-! DEFINITION. What the spec fixes for the machine (00_scope.md R9) and the choices it leaves to a session (R10). -/

namespace Sys2Proof

/-- The number of bytes of the address space, 0x0000 to 0xFFFF (R9; 10_state.md R31). -/
def Config.memorySize : Nat := 65536

/-- What a byte nothing has written reads as: "uninitialized cells read as 0" (20_memory.md R61; 70_reset_and_hazards.md R344). -/
def Config.unwrittenByte : Byte := 0x00

/-- The reset value of pc, 0x0000 (70_reset_and_hazards.md R342), where the loader places the image (R345). -/
def Config.resetPc : Word := 0x0000

/-- `unknown_policy`: how an unmapped opcode is handled, fixed for a session (R10; 70_reset_and_hazards.md R346). -/
inductive UnknownPolicy where
  | strict
  | permissive
  deriving DecidableEq, Repr

end Sys2Proof
end

