-- ==== Sys2Proof/Syntax.lean ====
section
/-! DEFINITION. The instructions of the core as terms: the operand sources, the ALU operations, the terms of the
decoder's own grammar (30_encoding.md R97), and Instr, one constructor per mnemonic of spec/opcode_table.json. -/

namespace Sys2Proof

/-- The seven general registers (10_state.md R20); F is no operand (R25). -/
inductive Reg where
  | a | b | c | d | e | h | l
  deriving DecidableEq, Repr

/-- The four 16-bit pair views (10_state.md R22). -/
inductive Pair where
  | bc | de | hl | af
  deriving DecidableEq, Repr

/-- The pairs an operand may be reached through: BC, DE and HL, never AF (30_encoding.md R97, 40_step.md R132). -/
inductive AddrPair where
  | bc | de | hl
  deriving DecidableEq, Repr

/-- The pair view an address pair names. -/
def AddrPair.toPair : AddrPair → Pair
  | .bc => .bc
  | .de => .de
  | .hl => .hl

/-- An operand source: `Register(r)`, `Immediate8` or `IndirectViaPair(p)` (30_encoding.md R97). -/
inductive Operand where
  | reg (r : Reg)
  | imm8
  | ind (p : AddrPair)
  deriving DecidableEq, Repr

/-- The operations of the ALU field, in the order of its codes 000 to 111 (30_encoding.md R92). -/
inductive AluOp where
  | add | adc | sub | sbc | and | xor | or | cp
  deriving DecidableEq, Repr

/-- The eight values of the r field, in the order of its codes 000 to 111 (30_encoding.md R91). -/
inductive RSel where
  | b | c | d | e | h | l | indHL | a
  deriving DecidableEq, Repr

/-- An instruction as 30_encoding.md R97 writes it: `Instr` there, and `Unknown(opcode, extended, len)`, whose opcode
and extended byte stand here (log entry 3). An immediate is named by its operand source and holds no value (log entry 4). -/
inductive Shape where
  | nop
  | halt
  | alu (op : AluOp) (src : Operand)
  | inc (x : Operand)
  | dec (x : Operand)
  | rlc (x : Operand)
  | ld (dst src : Operand)
  | unknown (op : Byte) (ext : Option Byte)
  deriving DecidableEq, Repr

/-- The instructions, one constructor per mnemonic of spec/opcode_table.json. `Ind` marks an operand in memory through a
pair, `Imm` the immediate byte: `ldBC` is LD B,C; `ldAIndBC` is LD A,(BC); `ldIndBCA` is LD (BC),A; `addAImm` is ADD A,d8. -/
inductive Instr where
  /-- ADD A,B: 0x80 (R154). -/
  | addAB
  /-- ADD A,C: 0x81 (R154). -/
  | addAC
  /-- ADD A,D: 0x82 (R154). -/
  | addAD
  /-- ADD A,E: 0x83 (R154). -/
  | addAE
  /-- ADD A,H: 0x84 (R154). -/
  | addAH
  /-- ADD A,L: 0x85 (R154). -/
  | addAL
  /-- ADD A,(HL): 0x86 (R155). -/
  | addAIndHL
  /-- ADD A,A: 0x87 (R154). -/
  | addAA
  /-- ADD A,d8: 0xC6 (R156). -/
  | addAImm
  /-- ADC A,B: 0x88 (R158). -/
  | adcAB
  /-- ADC A,C: 0x89 (R158). -/
  | adcAC
  /-- ADC A,D: 0x8A (R158). -/
  | adcAD
  /-- ADC A,E: 0x8B (R158). -/
  | adcAE
  /-- ADC A,H: 0x8C (R158). -/
  | adcAH
  /-- ADC A,L: 0x8D (R158). -/
  | adcAL
  /-- ADC A,(HL): 0x8E (R159). -/
  | adcAIndHL
  /-- ADC A,A: 0x8F (R158). -/
  | adcAA
  /-- ADC A,d8: 0xCE (R160). -/
  | adcAImm
  /-- SUB B: 0x90 (R162). -/
  | subB
  /-- SUB C: 0x91 (R162). -/
  | subC
  /-- SUB D: 0x92 (R162). -/
  | subD
  /-- SUB E: 0x93 (R162). -/
  | subE
  /-- SUB H: 0x94 (R162). -/
  | subH
  /-- SUB L: 0x95 (R162). -/
  | subL
  /-- SUB (HL): 0x96 (R163). -/
  | subIndHL
  /-- SUB A: 0x97 (R162). -/
  | subA
  /-- SUB d8: 0xD6 (R164). -/
  | subImm
  /-- SBC A,B: 0x98 (R166). -/
  | sbcAB
  /-- SBC A,C: 0x99 (R166). -/
  | sbcAC
  /-- SBC A,D: 0x9A (R166). -/
  | sbcAD
  /-- SBC A,E: 0x9B (R166). -/
  | sbcAE
  /-- SBC A,H: 0x9C (R166). -/
  | sbcAH
  /-- SBC A,L: 0x9D (R166). -/
  | sbcAL
  /-- SBC A,(HL): 0x9E (R167). -/
  | sbcAIndHL
  /-- SBC A,A: 0x9F (R166). -/
  | sbcAA
  /-- SBC A,d8: 0xDE (R168). -/
  | sbcAImm
  /-- AND B: 0xA0 (R174). -/
  | andB
  /-- AND C: 0xA1 (R174). -/
  | andC
  /-- AND D: 0xA2 (R174). -/
  | andD
  /-- AND E: 0xA3 (R174). -/
  | andE
  /-- AND H: 0xA4 (R174). -/
  | andH
  /-- AND L: 0xA5 (R174). -/
  | andL
  /-- AND (HL): 0xA6 (R175). -/
  | andIndHL
  /-- AND A: 0xA7 (R174). -/
  | andA
  /-- AND d8: 0xE6 (R176). -/
  | andImm
  /-- XOR B: 0xA8 (R182). -/
  | xorB
  /-- XOR C: 0xA9 (R182). -/
  | xorC
  /-- XOR D: 0xAA (R182). -/
  | xorD
  /-- XOR E: 0xAB (R182). -/
  | xorE
  /-- XOR H: 0xAC (R182). -/
  | xorH
  /-- XOR L: 0xAD (R182). -/
  | xorL
  /-- XOR (HL): 0xAE (R183). -/
  | xorIndHL
  /-- XOR A: 0xAF (R182). -/
  | xorA
  /-- XOR d8: 0xEE (R184). -/
  | xorImm
  /-- OR B: 0xB0 (R178). -/
  | orB
  /-- OR C: 0xB1 (R178). -/
  | orC
  /-- OR D: 0xB2 (R178). -/
  | orD
  /-- OR E: 0xB3 (R178). -/
  | orE
  /-- OR H: 0xB4 (R178). -/
  | orH
  /-- OR L: 0xB5 (R178). -/
  | orL
  /-- OR (HL): 0xB6 (R179). -/
  | orIndHL
  /-- OR A: 0xB7 (R178). -/
  | orA
  /-- OR d8: 0xF6 (R180). -/
  | orImm
  /-- CP B: 0xB8 (R170). -/
  | cpB
  /-- CP C: 0xB9 (R170). -/
  | cpC
  /-- CP D: 0xBA (R170). -/
  | cpD
  /-- CP E: 0xBB (R170). -/
  | cpE
  /-- CP H: 0xBC (R170). -/
  | cpH
  /-- CP L: 0xBD (R170). -/
  | cpL
  /-- CP (HL): 0xBE (R171). -/
  | cpIndHL
  /-- CP A: 0xBF (R170). -/
  | cpA
  /-- CP d8: 0xFE (R172). -/
  | cpImm
  /-- INC B: 0x04 (R202). -/
  | incB
  /-- INC C: 0x0C (R202). -/
  | incC
  /-- INC D: 0x14 (R202). -/
  | incD
  /-- INC E: 0x1C (R202). -/
  | incE
  /-- INC H: 0x24 (R202). -/
  | incH
  /-- INC L: 0x2C (R202). -/
  | incL
  /-- INC (HL): 0x34 (R203). -/
  | incIndHL
  /-- INC A: 0x3C (R202). -/
  | incA
  /-- DEC B: 0x05 (R205). -/
  | decB
  /-- DEC C: 0x0D (R205). -/
  | decC
  /-- DEC D: 0x15 (R205). -/
  | decD
  /-- DEC E: 0x1D (R205). -/
  | decE
  /-- DEC H: 0x25 (R205). -/
  | decH
  /-- DEC L: 0x2D (R205). -/
  | decL
  /-- DEC (HL): 0x35 (R206). -/
  | decIndHL
  /-- DEC A: 0x3D (R205). -/
  | decA
  /-- LD B,B: 0x40 (R221). -/
  | ldBB
  /-- LD B,C: 0x41 (R221). -/
  | ldBC
  /-- LD B,D: 0x42 (R221). -/
  | ldBD
  /-- LD B,E: 0x43 (R221). -/
  | ldBE
  /-- LD B,H: 0x44 (R221). -/
  | ldBH
  /-- LD B,L: 0x45 (R221). -/
  | ldBL
  /-- LD B,(HL): 0x46 (R222). -/
  | ldBIndHL
  /-- LD B,A: 0x47 (R221). -/
  | ldBA
  /-- LD C,B: 0x48 (R221). -/
  | ldCB
  /-- LD C,C: 0x49 (R221). -/
  | ldCC
  /-- LD C,D: 0x4A (R221). -/
  | ldCD
  /-- LD C,E: 0x4B (R221). -/
  | ldCE
  /-- LD C,H: 0x4C (R221). -/
  | ldCH
  /-- LD C,L: 0x4D (R221). -/
  | ldCL
  /-- LD C,(HL): 0x4E (R222). -/
  | ldCIndHL
  /-- LD C,A: 0x4F (R221). -/
  | ldCA
  /-- LD D,B: 0x50 (R221). -/
  | ldDB
  /-- LD D,C: 0x51 (R221). -/
  | ldDC
  /-- LD D,D: 0x52 (R221). -/
  | ldDD
  /-- LD D,E: 0x53 (R221). -/
  | ldDE
  /-- LD D,H: 0x54 (R221). -/
  | ldDH
  /-- LD D,L: 0x55 (R221). -/
  | ldDL
  /-- LD D,(HL): 0x56 (R222). -/
  | ldDIndHL
  /-- LD D,A: 0x57 (R221). -/
  | ldDA
  /-- LD E,B: 0x58 (R221). -/
  | ldEB
  /-- LD E,C: 0x59 (R221). -/
  | ldEC
  /-- LD E,D: 0x5A (R221). -/
  | ldED
  /-- LD E,E: 0x5B (R221). -/
  | ldEE
  /-- LD E,H: 0x5C (R221). -/
  | ldEH
  /-- LD E,L: 0x5D (R221). -/
  | ldEL
  /-- LD E,(HL): 0x5E (R222). -/
  | ldEIndHL
  /-- LD E,A: 0x5F (R221). -/
  | ldEA
  /-- LD H,B: 0x60 (R221). -/
  | ldHB
  /-- LD H,C: 0x61 (R221). -/
  | ldHC
  /-- LD H,D: 0x62 (R221). -/
  | ldHD
  /-- LD H,E: 0x63 (R221). -/
  | ldHE
  /-- LD H,H: 0x64 (R221). -/
  | ldHH
  /-- LD H,L: 0x65 (R221). -/
  | ldHL
  /-- LD H,(HL): 0x66 (R222). -/
  | ldHIndHL
  /-- LD H,A: 0x67 (R221). -/
  | ldHA
  /-- LD L,B: 0x68 (R221). -/
  | ldLB
  /-- LD L,C: 0x69 (R221). -/
  | ldLC
  /-- LD L,D: 0x6A (R221). -/
  | ldLD
  /-- LD L,E: 0x6B (R221). -/
  | ldLE
  /-- LD L,H: 0x6C (R221). -/
  | ldLH
  /-- LD L,L: 0x6D (R221). -/
  | ldLL
  /-- LD L,(HL): 0x6E (R222). -/
  | ldLIndHL
  /-- LD L,A: 0x6F (R221). -/
  | ldLA
  /-- LD (HL),B: 0x70 (R223). -/
  | ldIndHLB
  /-- LD (HL),C: 0x71 (R223). -/
  | ldIndHLC
  /-- LD (HL),D: 0x72 (R223). -/
  | ldIndHLD
  /-- LD (HL),E: 0x73 (R223). -/
  | ldIndHLE
  /-- LD (HL),H: 0x74 (R223). -/
  | ldIndHLH
  /-- LD (HL),L: 0x75 (R223). -/
  | ldIndHLL
  /-- LD (HL),A: 0x77 (R223). -/
  | ldIndHLA
  /-- LD A,B: 0x78 (R221). -/
  | ldAB
  /-- LD A,C: 0x79 (R221). -/
  | ldAC
  /-- LD A,D: 0x7A (R221). -/
  | ldAD
  /-- LD A,E: 0x7B (R221). -/
  | ldAE
  /-- LD A,H: 0x7C (R221). -/
  | ldAH
  /-- LD A,L: 0x7D (R221). -/
  | ldAL
  /-- LD A,(HL): 0x7E (R222). -/
  | ldAIndHL
  /-- LD A,A: 0x7F (R221). -/
  | ldAA
  /-- LD B,d8: 0x06 (R224). -/
  | ldBImm
  /-- LD C,d8: 0x0E (R224). -/
  | ldCImm
  /-- LD D,d8: 0x16 (R224). -/
  | ldDImm
  /-- LD E,d8: 0x1E (R224). -/
  | ldEImm
  /-- LD H,d8: 0x26 (R224). -/
  | ldHImm
  /-- LD L,d8: 0x2E (R224). -/
  | ldLImm
  /-- LD (HL),d8: 0x36 (R225). -/
  | ldIndHLImm
  /-- LD A,d8: 0x3E (R224). -/
  | ldAImm
  /-- LD A,(BC): 0x0A (R226). -/
  | ldAIndBC
  /-- LD A,(DE): 0x1A (R227). -/
  | ldAIndDE
  /-- LD (BC),A: 0x02 (R228). -/
  | ldIndBCA
  /-- LD (DE),A: 0x12 (R229). -/
  | ldIndDEA
  /-- RLC B: 0xCB 0x00 (R251). -/
  | rlcB
  /-- RLC C: 0xCB 0x01 (R251). -/
  | rlcC
  /-- RLC D: 0xCB 0x02 (R251). -/
  | rlcD
  /-- RLC E: 0xCB 0x03 (R251). -/
  | rlcE
  /-- RLC H: 0xCB 0x04 (R251). -/
  | rlcH
  /-- RLC L: 0xCB 0x05 (R251). -/
  | rlcL
  /-- RLC (HL): 0xCB 0x06 (R252). -/
  | rlcIndHL
  /-- RLC A: 0xCB 0x07 (R251). -/
  | rlcA
  /-- NOP: 0x00 (R270). -/
  | nop
  /-- HALT: 0x76 (R272). -/
  | halt
  /-- An unmapped base opcode (R100). -/
  | unknown (op : Byte)
  /-- An unmapped extended opcode of the CB page (R100). -/
  | unknownCB (ext : Byte)
  deriving DecidableEq, Repr

end Sys2Proof
end

