-- ==== Sys2Proof/WellFormed.lean ====
section
/-! DEFINITION. Which terms of Instr an encoding stands for. Only the two constructors for unmapped encodings carry a byte,
and only an unmapped byte makes them well formed (30_encoding.md R100, R101). -/

namespace Sys2Proof

/-- The 90 unmapped base opcodes, as R100 lists them. -/
def unmappedOpcodes : List Byte :=
  [0x01, 0x03, 0x07, 0x08, 0x09, 0x0B, 0x0F, 0x10, 0x11, 0x13, 0x17, 0x18, 0x19, 0x1B, 0x1F] ++
  [0x20, 0x21, 0x22, 0x23, 0x27, 0x28, 0x29, 0x2A, 0x2B, 0x2F, 0x30, 0x31, 0x32, 0x33, 0x37] ++
  [0x38, 0x39, 0x3A, 0x3B, 0x3F, 0xC0, 0xC1, 0xC2, 0xC3, 0xC4, 0xC5, 0xC7, 0xC8, 0xC9, 0xCA] ++
  [0xCC, 0xCD, 0xCF, 0xD0, 0xD1, 0xD2, 0xD3, 0xD4, 0xD5, 0xD7, 0xD8, 0xD9, 0xDA, 0xDB, 0xDC] ++
  [0xDD, 0xDF, 0xE0, 0xE1, 0xE2, 0xE3, 0xE4, 0xE5, 0xE7, 0xE8, 0xE9, 0xEA, 0xEB, 0xEC, 0xED] ++
  [0xEF, 0xF0, 0xF1, 0xF2, 0xF3, 0xF4, 0xF5, 0xF7, 0xF8, 0xF9, 0xFA, 0xFB, 0xFC, 0xFD, 0xFF]

/-- The CB-page extended opcodes that are unmapped: 0x08 to 0xFF (R99, R100). -/
def unmappedExtended (ext : Byte) : Bool := 0x08 ≤ ext.toNat

/-- The term stands for an encoding of the core. -/
def Instr.wf : Instr → Bool
  | .unknown op => unmappedOpcodes.contains op
  | .unknownCB ext => unmappedExtended ext
  | _ => true

/-- The term stands for an encoding of the core. -/
abbrev Instr.WellFormed (i : Instr) : Prop := i.wf = true

end Sys2Proof
end

