-- ==== Sys2Proof/Decode.lean ====
section
/-! DEFINITION. The decoder (30_encoding.md R90 to R102), total on any bytes, and after it the encoder, written from the
base-page table R98 and the CB-page rule R99, so that the two presentations of the map are held against each other. -/

namespace Sys2Proof

/-- The term of R97's grammar that an instruction is: the operation and the operand sources its rule gives it. -/
def Instr.shape : Instr → Shape
  | .addAB => .alu .add (.reg .b)
  | .addAC => .alu .add (.reg .c)
  | .addAD => .alu .add (.reg .d)
  | .addAE => .alu .add (.reg .e)
  | .addAH => .alu .add (.reg .h)
  | .addAL => .alu .add (.reg .l)
  | .addAIndHL => .alu .add (.ind .hl)
  | .addAA => .alu .add (.reg .a)
  | .addAImm => .alu .add .imm8
  | .adcAB => .alu .adc (.reg .b)
  | .adcAC => .alu .adc (.reg .c)
  | .adcAD => .alu .adc (.reg .d)
  | .adcAE => .alu .adc (.reg .e)
  | .adcAH => .alu .adc (.reg .h)
  | .adcAL => .alu .adc (.reg .l)
  | .adcAIndHL => .alu .adc (.ind .hl)
  | .adcAA => .alu .adc (.reg .a)
  | .adcAImm => .alu .adc .imm8
  | .subB => .alu .sub (.reg .b)
  | .subC => .alu .sub (.reg .c)
  | .subD => .alu .sub (.reg .d)
  | .subE => .alu .sub (.reg .e)
  | .subH => .alu .sub (.reg .h)
  | .subL => .alu .sub (.reg .l)
  | .subIndHL => .alu .sub (.ind .hl)
  | .subA => .alu .sub (.reg .a)
  | .subImm => .alu .sub .imm8
  | .sbcAB => .alu .sbc (.reg .b)
  | .sbcAC => .alu .sbc (.reg .c)
  | .sbcAD => .alu .sbc (.reg .d)
  | .sbcAE => .alu .sbc (.reg .e)
  | .sbcAH => .alu .sbc (.reg .h)
  | .sbcAL => .alu .sbc (.reg .l)
  | .sbcAIndHL => .alu .sbc (.ind .hl)
  | .sbcAA => .alu .sbc (.reg .a)
  | .sbcAImm => .alu .sbc .imm8
  | .andB => .alu .and (.reg .b)
  | .andC => .alu .and (.reg .c)
  | .andD => .alu .and (.reg .d)
  | .andE => .alu .and (.reg .e)
  | .andH => .alu .and (.reg .h)
  | .andL => .alu .and (.reg .l)
  | .andIndHL => .alu .and (.ind .hl)
  | .andA => .alu .and (.reg .a)
  | .andImm => .alu .and .imm8
  | .xorB => .alu .xor (.reg .b)
  | .xorC => .alu .xor (.reg .c)
  | .xorD => .alu .xor (.reg .d)
  | .xorE => .alu .xor (.reg .e)
  | .xorH => .alu .xor (.reg .h)
  | .xorL => .alu .xor (.reg .l)
  | .xorIndHL => .alu .xor (.ind .hl)
  | .xorA => .alu .xor (.reg .a)
  | .xorImm => .alu .xor .imm8
  | .orB => .alu .or (.reg .b)
  | .orC => .alu .or (.reg .c)
  | .orD => .alu .or (.reg .d)
  | .orE => .alu .or (.reg .e)
  | .orH => .alu .or (.reg .h)
  | .orL => .alu .or (.reg .l)
  | .orIndHL => .alu .or (.ind .hl)
  | .orA => .alu .or (.reg .a)
  | .orImm => .alu .or .imm8
  | .cpB => .alu .cp (.reg .b)
  | .cpC => .alu .cp (.reg .c)
  | .cpD => .alu .cp (.reg .d)
  | .cpE => .alu .cp (.reg .e)
  | .cpH => .alu .cp (.reg .h)
  | .cpL => .alu .cp (.reg .l)
  | .cpIndHL => .alu .cp (.ind .hl)
  | .cpA => .alu .cp (.reg .a)
  | .cpImm => .alu .cp .imm8
  | .incB => .inc (.reg .b)
  | .incC => .inc (.reg .c)
  | .incD => .inc (.reg .d)
  | .incE => .inc (.reg .e)
  | .incH => .inc (.reg .h)
  | .incL => .inc (.reg .l)
  | .incIndHL => .inc (.ind .hl)
  | .incA => .inc (.reg .a)
  | .decB => .dec (.reg .b)
  | .decC => .dec (.reg .c)
  | .decD => .dec (.reg .d)
  | .decE => .dec (.reg .e)
  | .decH => .dec (.reg .h)
  | .decL => .dec (.reg .l)
  | .decIndHL => .dec (.ind .hl)
  | .decA => .dec (.reg .a)
  | .ldBB => .ld (.reg .b) (.reg .b)
  | .ldBC => .ld (.reg .b) (.reg .c)
  | .ldBD => .ld (.reg .b) (.reg .d)
  | .ldBE => .ld (.reg .b) (.reg .e)
  | .ldBH => .ld (.reg .b) (.reg .h)
  | .ldBL => .ld (.reg .b) (.reg .l)
  | .ldBIndHL => .ld (.reg .b) (.ind .hl)
  | .ldBA => .ld (.reg .b) (.reg .a)
  | .ldCB => .ld (.reg .c) (.reg .b)
  | .ldCC => .ld (.reg .c) (.reg .c)
  | .ldCD => .ld (.reg .c) (.reg .d)
  | .ldCE => .ld (.reg .c) (.reg .e)
  | .ldCH => .ld (.reg .c) (.reg .h)
  | .ldCL => .ld (.reg .c) (.reg .l)
  | .ldCIndHL => .ld (.reg .c) (.ind .hl)
  | .ldCA => .ld (.reg .c) (.reg .a)
  | .ldDB => .ld (.reg .d) (.reg .b)
  | .ldDC => .ld (.reg .d) (.reg .c)
  | .ldDD => .ld (.reg .d) (.reg .d)
  | .ldDE => .ld (.reg .d) (.reg .e)
  | .ldDH => .ld (.reg .d) (.reg .h)
  | .ldDL => .ld (.reg .d) (.reg .l)
  | .ldDIndHL => .ld (.reg .d) (.ind .hl)
  | .ldDA => .ld (.reg .d) (.reg .a)
  | .ldEB => .ld (.reg .e) (.reg .b)
  | .ldEC => .ld (.reg .e) (.reg .c)
  | .ldED => .ld (.reg .e) (.reg .d)
  | .ldEE => .ld (.reg .e) (.reg .e)
  | .ldEH => .ld (.reg .e) (.reg .h)
  | .ldEL => .ld (.reg .e) (.reg .l)
  | .ldEIndHL => .ld (.reg .e) (.ind .hl)
  | .ldEA => .ld (.reg .e) (.reg .a)
  | .ldHB => .ld (.reg .h) (.reg .b)
  | .ldHC => .ld (.reg .h) (.reg .c)
  | .ldHD => .ld (.reg .h) (.reg .d)
  | .ldHE => .ld (.reg .h) (.reg .e)
  | .ldHH => .ld (.reg .h) (.reg .h)
  | .ldHL => .ld (.reg .h) (.reg .l)
  | .ldHIndHL => .ld (.reg .h) (.ind .hl)
  | .ldHA => .ld (.reg .h) (.reg .a)
  | .ldLB => .ld (.reg .l) (.reg .b)
  | .ldLC => .ld (.reg .l) (.reg .c)
  | .ldLD => .ld (.reg .l) (.reg .d)
  | .ldLE => .ld (.reg .l) (.reg .e)
  | .ldLH => .ld (.reg .l) (.reg .h)
  | .ldLL => .ld (.reg .l) (.reg .l)
  | .ldLIndHL => .ld (.reg .l) (.ind .hl)
  | .ldLA => .ld (.reg .l) (.reg .a)
  | .ldIndHLB => .ld (.ind .hl) (.reg .b)
  | .ldIndHLC => .ld (.ind .hl) (.reg .c)
  | .ldIndHLD => .ld (.ind .hl) (.reg .d)
  | .ldIndHLE => .ld (.ind .hl) (.reg .e)
  | .ldIndHLH => .ld (.ind .hl) (.reg .h)
  | .ldIndHLL => .ld (.ind .hl) (.reg .l)
  | .ldIndHLA => .ld (.ind .hl) (.reg .a)
  | .ldAB => .ld (.reg .a) (.reg .b)
  | .ldAC => .ld (.reg .a) (.reg .c)
  | .ldAD => .ld (.reg .a) (.reg .d)
  | .ldAE => .ld (.reg .a) (.reg .e)
  | .ldAH => .ld (.reg .a) (.reg .h)
  | .ldAL => .ld (.reg .a) (.reg .l)
  | .ldAIndHL => .ld (.reg .a) (.ind .hl)
  | .ldAA => .ld (.reg .a) (.reg .a)
  | .ldBImm => .ld (.reg .b) .imm8
  | .ldCImm => .ld (.reg .c) .imm8
  | .ldDImm => .ld (.reg .d) .imm8
  | .ldEImm => .ld (.reg .e) .imm8
  | .ldHImm => .ld (.reg .h) .imm8
  | .ldLImm => .ld (.reg .l) .imm8
  | .ldIndHLImm => .ld (.ind .hl) .imm8
  | .ldAImm => .ld (.reg .a) .imm8
  | .ldAIndBC => .ld (.reg .a) (.ind .bc)
  | .ldAIndDE => .ld (.reg .a) (.ind .de)
  | .ldIndBCA => .ld (.ind .bc) (.reg .a)
  | .ldIndDEA => .ld (.ind .de) (.reg .a)
  | .rlcB => .rlc (.reg .b)
  | .rlcC => .rlc (.reg .c)
  | .rlcD => .rlc (.reg .d)
  | .rlcE => .rlc (.reg .e)
  | .rlcH => .rlc (.reg .h)
  | .rlcL => .rlc (.reg .l)
  | .rlcIndHL => .rlc (.ind .hl)
  | .rlcA => .rlc (.reg .a)
  | .nop => .nop
  | .halt => .halt
  | .unknown op => .unknown op none
  | .unknownCB ext => .unknown 0xCB (some ext)

/-- An operand source is the immediate byte. -/
def Operand.isImm8 : Operand → Bool
  | .reg _ => false
  | .imm8 => true
  | .ind _ => false

/-- Some operand source of the instruction is `Immediate8` (30_encoding.md R95). -/
def Shape.hasImm8 : Shape → Bool
  | .nop => false
  | .halt => false
  | .alu _ src => src.isImm8
  | .inc x => x.isImm8
  | .dec x => x.isImm8
  | .rlc x => x.isImm8
  | .ld dst src => dst.isImm8 || src.isImm8
  | .unknown _ _ => false

/-- The instruction comes from the CB page (30_encoding.md R95; for an unmapped encoding R100). -/
def Shape.onCBPage : Shape → Bool
  | .nop => false
  | .halt => false
  | .alu _ _ => false
  | .inc _ => false
  | .dec _ => false
  | .rlc _ => true
  | .ld _ _ => false
  | .unknown _ ext => ext.isSome

/-- The length in bytes: 1, plus 1 for the CB page, plus 1 for an immediate (30_encoding.md R95, R100). -/
def Shape.len (f : Shape) : Nat :=
  1 + (if f.onCBPage then 1 else 0) + (if f.hasImm8 then 1 else 0)

/-- The length in bytes of an instruction. -/
def Instr.len (i : Instr) : Nat := i.shape.len

/-! ### The fields -/

/-- The r field's value from its three bits (R91). -/
def rSel (f : BitVec 3) : RSel :=
  match f.toNat with
  | 0 => .b
  | 1 => .c
  | 2 => .d
  | 3 => .e
  | 4 => .h
  | 5 => .l
  | 6 => .indHL
  | _ => .a

/-- The operand source an r field selects: the table S of R91. -/
def RSel.operand : RSel → Operand
  | .b => .reg .b
  | .c => .reg .c
  | .d => .reg .d
  | .e => .reg .e
  | .h => .reg .h
  | .l => .reg .l
  | .indHL => .ind .hl
  | .a => .reg .a

/-- The operation an ALU field selects: the table O of R92. -/
def aluSel (f : BitVec 3) : AluOp :=
  match f.toNat with
  | 0 => .add
  | 1 => .adc
  | 2 => .sub
  | 3 => .sbc
  | 4 => .and
  | 5 => .xor
  | 6 => .or
  | _ => .cp

/-! ### The arms of R97, a row of R98 to each line -/

/-- `01 ddd sss` (R97): `Ld(S(ddd), S(sss))`, and HALT where both fields are 110. -/
def ldOf : RSel → RSel → Instr
  | .b, .b => .ldBB
  | .b, .c => .ldBC
  | .b, .d => .ldBD
  | .b, .e => .ldBE
  | .b, .h => .ldBH
  | .b, .l => .ldBL
  | .b, .indHL => .ldBIndHL
  | .b, .a => .ldBA
  | .c, .b => .ldCB
  | .c, .c => .ldCC
  | .c, .d => .ldCD
  | .c, .e => .ldCE
  | .c, .h => .ldCH
  | .c, .l => .ldCL
  | .c, .indHL => .ldCIndHL
  | .c, .a => .ldCA
  | .d, .b => .ldDB
  | .d, .c => .ldDC
  | .d, .d => .ldDD
  | .d, .e => .ldDE
  | .d, .h => .ldDH
  | .d, .l => .ldDL
  | .d, .indHL => .ldDIndHL
  | .d, .a => .ldDA
  | .e, .b => .ldEB
  | .e, .c => .ldEC
  | .e, .d => .ldED
  | .e, .e => .ldEE
  | .e, .h => .ldEH
  | .e, .l => .ldEL
  | .e, .indHL => .ldEIndHL
  | .e, .a => .ldEA
  | .h, .b => .ldHB
  | .h, .c => .ldHC
  | .h, .d => .ldHD
  | .h, .e => .ldHE
  | .h, .h => .ldHH
  | .h, .l => .ldHL
  | .h, .indHL => .ldHIndHL
  | .h, .a => .ldHA
  | .l, .b => .ldLB
  | .l, .c => .ldLC
  | .l, .d => .ldLD
  | .l, .e => .ldLE
  | .l, .h => .ldLH
  | .l, .l => .ldLL
  | .l, .indHL => .ldLIndHL
  | .l, .a => .ldLA
  | .indHL, .b => .ldIndHLB
  | .indHL, .c => .ldIndHLC
  | .indHL, .d => .ldIndHLD
  | .indHL, .e => .ldIndHLE
  | .indHL, .h => .ldIndHLH
  | .indHL, .l => .ldIndHLL
  | .indHL, .indHL => .halt
  | .indHL, .a => .ldIndHLA
  | .a, .b => .ldAB
  | .a, .c => .ldAC
  | .a, .d => .ldAD
  | .a, .e => .ldAE
  | .a, .h => .ldAH
  | .a, .l => .ldAL
  | .a, .indHL => .ldAIndHL
  | .a, .a => .ldAA

/-- `10 ooo sss` (R97): `Alu(O(ooo), S(sss))`. -/
def aluOf : AluOp → RSel → Instr
  | .add, .b => .addAB
  | .add, .c => .addAC
  | .add, .d => .addAD
  | .add, .e => .addAE
  | .add, .h => .addAH
  | .add, .l => .addAL
  | .add, .indHL => .addAIndHL
  | .add, .a => .addAA
  | .adc, .b => .adcAB
  | .adc, .c => .adcAC
  | .adc, .d => .adcAD
  | .adc, .e => .adcAE
  | .adc, .h => .adcAH
  | .adc, .l => .adcAL
  | .adc, .indHL => .adcAIndHL
  | .adc, .a => .adcAA
  | .sub, .b => .subB
  | .sub, .c => .subC
  | .sub, .d => .subD
  | .sub, .e => .subE
  | .sub, .h => .subH
  | .sub, .l => .subL
  | .sub, .indHL => .subIndHL
  | .sub, .a => .subA
  | .sbc, .b => .sbcAB
  | .sbc, .c => .sbcAC
  | .sbc, .d => .sbcAD
  | .sbc, .e => .sbcAE
  | .sbc, .h => .sbcAH
  | .sbc, .l => .sbcAL
  | .sbc, .indHL => .sbcAIndHL
  | .sbc, .a => .sbcAA
  | .and, .b => .andB
  | .and, .c => .andC
  | .and, .d => .andD
  | .and, .e => .andE
  | .and, .h => .andH
  | .and, .l => .andL
  | .and, .indHL => .andIndHL
  | .and, .a => .andA
  | .xor, .b => .xorB
  | .xor, .c => .xorC
  | .xor, .d => .xorD
  | .xor, .e => .xorE
  | .xor, .h => .xorH
  | .xor, .l => .xorL
  | .xor, .indHL => .xorIndHL
  | .xor, .a => .xorA
  | .or, .b => .orB
  | .or, .c => .orC
  | .or, .d => .orD
  | .or, .e => .orE
  | .or, .h => .orH
  | .or, .l => .orL
  | .or, .indHL => .orIndHL
  | .or, .a => .orA
  | .cp, .b => .cpB
  | .cp, .c => .cpC
  | .cp, .d => .cpD
  | .cp, .e => .cpE
  | .cp, .h => .cpH
  | .cp, .l => .cpL
  | .cp, .indHL => .cpIndHL
  | .cp, .a => .cpA

/-- `11 ooo 110` (R97): `Alu(O(ooo), Immediate8)`. -/
def aluImmOf : AluOp → Instr
  | .add => .addAImm
  | .adc => .adcAImm
  | .sub => .subImm
  | .sbc => .sbcAImm
  | .and => .andImm
  | .xor => .xorImm
  | .or => .orImm
  | .cp => .cpImm

/-- `00 ddd 100` (R97): `Inc(S(ddd))`. -/
def incOf : RSel → Instr
  | .b => .incB
  | .c => .incC
  | .d => .incD
  | .e => .incE
  | .h => .incH
  | .l => .incL
  | .indHL => .incIndHL
  | .a => .incA

/-- `00 ddd 101` (R97): `Dec(S(ddd))`. -/
def decOf : RSel → Instr
  | .b => .decB
  | .c => .decC
  | .d => .decD
  | .e => .decE
  | .h => .decH
  | .l => .decL
  | .indHL => .decIndHL
  | .a => .decA

/-- `00 ddd 110` (R97): `Ld(S(ddd), Immediate8)`. -/
def ldImmOf : RSel → Instr
  | .b => .ldBImm
  | .c => .ldCImm
  | .d => .ldDImm
  | .e => .ldEImm
  | .h => .ldHImm
  | .l => .ldLImm
  | .indHL => .ldIndHLImm
  | .a => .ldAImm

/-- CB page, `00 000 sss` (R97, R99): `Rlc(S(sss))`. -/
def rlcOf : RSel → Instr
  | .b => .rlcB
  | .c => .rlcC
  | .d => .rlcD
  | .e => .rlcE
  | .h => .rlcH
  | .l => .rlcL
  | .indHL => .rlcIndHL
  | .a => .rlcA

/-- What decoding gives: the instruction and its length. R97's `Known(i, len)` is the two for a mapped `i`; its
`Unknown(b0, none, 1)` and `Unknown(0xCB, some b1, 2)` are `unknown b0` and `unknownCB b1` with those lengths (log entry 3). -/
structure Decoded where
  instr : Instr
  len : Nat
  deriving DecidableEq, Repr

/-- Bits 7 to 6 of an opcode. -/
def bitsXX (b : Byte) : BitVec 2 := b.extractLsb' 6 2

/-- Bits 5 to 3 of an opcode: the fields ddd and ooo. -/
def bitsYYY (b : Byte) : BitVec 3 := b.extractLsb' 3 3

/-- Bits 2 to 0 of an opcode: the field sss. -/
def bitsZZZ (b : Byte) : BitVec 3 := b.extractLsb' 0 3

/-- The byte that selects the CB page (30_encoding.md R94). -/
def pageByte : Byte := 0xCB

/-- The CB page (R97, R99): extended opcodes 0x00 to 0x07 are RLC, every other one is unmapped. -/
def decodeCB (b1 : Byte) : Decoded :=
  if bitsXX b1 = 0b00 ∧ bitsYYY b1 = 0b000 then ⟨rlcOf (rSel (bitsZZZ b1)), 2⟩
  else ⟨.unknownCB b1, 2⟩

/-- The base page: R97's arms but the one for 0xCB, tried top to bottom. -/
def decodeBase (b0 : Byte) : Decoded :=
  if b0 = 0x00 then ⟨.nop, 1⟩
  else if b0 = 0x02 then ⟨.ldIndBCA, 1⟩
  else if b0 = 0x12 then ⟨.ldIndDEA, 1⟩
  else if b0 = 0x0A then ⟨.ldAIndBC, 1⟩
  else if b0 = 0x1A then ⟨.ldAIndDE, 1⟩
  else if bitsXX b0 = 0b00 ∧ bitsZZZ b0 = 0b100 then ⟨incOf (rSel (bitsYYY b0)), 1⟩
  else if bitsXX b0 = 0b00 ∧ bitsZZZ b0 = 0b101 then ⟨decOf (rSel (bitsYYY b0)), 1⟩
  else if bitsXX b0 = 0b00 ∧ bitsZZZ b0 = 0b110 then ⟨ldImmOf (rSel (bitsYYY b0)), 2⟩
  else if b0 = 0x76 then ⟨.halt, 1⟩
  else if bitsXX b0 = 0b01 then ⟨ldOf (rSel (bitsYYY b0)) (rSel (bitsZZZ b0)), 1⟩
  else if bitsXX b0 = 0b10 then ⟨aluOf (aluSel (bitsYYY b0)) (rSel (bitsZZZ b0)), 1⟩
  else if bitsXX b0 = 0b11 ∧ bitsZZZ b0 = 0b110 then ⟨aluImmOf (aluSel (bitsYYY b0)), 2⟩
  else ⟨.unknown b0, 1⟩

/-- The decoder (R97). 0xCB is `11 001 011`, which no arm before its own matches, so it is tried first here. `b1` counts only
where `b0` is 0xCB (40_step.md R122; log entry 5). -/
def decode (b0 b1 : Byte) : Decoded :=
  if b0 = pageByte then decodeCB b1 else decodeBase b0

/-- Why a list of bytes holds no instruction: it is empty, or it ends inside one. The core itself never meets this, since
every address holds a byte. -/
inductive DecodeReject where
  | noByte
  | cutShort (op : Byte)
  deriving DecidableEq, Repr

/-- The result of decoding a list of bytes. -/
inductive DecodeResult where
  | ok (d : Decoded) (rest : List Byte)
  | reject (r : DecodeReject)
  deriving DecidableEq, Repr

/-- Decoding the front of a list of bytes: the instruction and what follows it. -/
def decodeBytes : List Byte → DecodeResult
  | [] => .reject .noByte
  | [b0] => if (decode b0 0x00).len = 1 then .ok (decode b0 0x00) [] else .reject (.cutShort b0)
  | b0 :: b1 :: rest => .ok (decode b0 b1) (if (decode b0 b1).len = 2 then rest else b1 :: rest)

/-! ### The encoder -/

/-- Byte 0 of an instruction: its place in the base page (R98), and 0xCB for the CB page (R94). -/
def Instr.opcode : Instr → Byte
  | .addAB => 0x80
  | .addAC => 0x81
  | .addAD => 0x82
  | .addAE => 0x83
  | .addAH => 0x84
  | .addAL => 0x85
  | .addAIndHL => 0x86
  | .addAA => 0x87
  | .addAImm => 0xC6
  | .adcAB => 0x88
  | .adcAC => 0x89
  | .adcAD => 0x8A
  | .adcAE => 0x8B
  | .adcAH => 0x8C
  | .adcAL => 0x8D
  | .adcAIndHL => 0x8E
  | .adcAA => 0x8F
  | .adcAImm => 0xCE
  | .subB => 0x90
  | .subC => 0x91
  | .subD => 0x92
  | .subE => 0x93
  | .subH => 0x94
  | .subL => 0x95
  | .subIndHL => 0x96
  | .subA => 0x97
  | .subImm => 0xD6
  | .sbcAB => 0x98
  | .sbcAC => 0x99
  | .sbcAD => 0x9A
  | .sbcAE => 0x9B
  | .sbcAH => 0x9C
  | .sbcAL => 0x9D
  | .sbcAIndHL => 0x9E
  | .sbcAA => 0x9F
  | .sbcAImm => 0xDE
  | .andB => 0xA0
  | .andC => 0xA1
  | .andD => 0xA2
  | .andE => 0xA3
  | .andH => 0xA4
  | .andL => 0xA5
  | .andIndHL => 0xA6
  | .andA => 0xA7
  | .andImm => 0xE6
  | .xorB => 0xA8
  | .xorC => 0xA9
  | .xorD => 0xAA
  | .xorE => 0xAB
  | .xorH => 0xAC
  | .xorL => 0xAD
  | .xorIndHL => 0xAE
  | .xorA => 0xAF
  | .xorImm => 0xEE
  | .orB => 0xB0
  | .orC => 0xB1
  | .orD => 0xB2
  | .orE => 0xB3
  | .orH => 0xB4
  | .orL => 0xB5
  | .orIndHL => 0xB6
  | .orA => 0xB7
  | .orImm => 0xF6
  | .cpB => 0xB8
  | .cpC => 0xB9
  | .cpD => 0xBA
  | .cpE => 0xBB
  | .cpH => 0xBC
  | .cpL => 0xBD
  | .cpIndHL => 0xBE
  | .cpA => 0xBF
  | .cpImm => 0xFE
  | .incB => 0x04
  | .incC => 0x0C
  | .incD => 0x14
  | .incE => 0x1C
  | .incH => 0x24
  | .incL => 0x2C
  | .incIndHL => 0x34
  | .incA => 0x3C
  | .decB => 0x05
  | .decC => 0x0D
  | .decD => 0x15
  | .decE => 0x1D
  | .decH => 0x25
  | .decL => 0x2D
  | .decIndHL => 0x35
  | .decA => 0x3D
  | .ldBB => 0x40
  | .ldBC => 0x41
  | .ldBD => 0x42
  | .ldBE => 0x43
  | .ldBH => 0x44
  | .ldBL => 0x45
  | .ldBIndHL => 0x46
  | .ldBA => 0x47
  | .ldCB => 0x48
  | .ldCC => 0x49
  | .ldCD => 0x4A
  | .ldCE => 0x4B
  | .ldCH => 0x4C
  | .ldCL => 0x4D
  | .ldCIndHL => 0x4E
  | .ldCA => 0x4F
  | .ldDB => 0x50
  | .ldDC => 0x51
  | .ldDD => 0x52
  | .ldDE => 0x53
  | .ldDH => 0x54
  | .ldDL => 0x55
  | .ldDIndHL => 0x56
  | .ldDA => 0x57
  | .ldEB => 0x58
  | .ldEC => 0x59
  | .ldED => 0x5A
  | .ldEE => 0x5B
  | .ldEH => 0x5C
  | .ldEL => 0x5D
  | .ldEIndHL => 0x5E
  | .ldEA => 0x5F
  | .ldHB => 0x60
  | .ldHC => 0x61
  | .ldHD => 0x62
  | .ldHE => 0x63
  | .ldHH => 0x64
  | .ldHL => 0x65
  | .ldHIndHL => 0x66
  | .ldHA => 0x67
  | .ldLB => 0x68
  | .ldLC => 0x69
  | .ldLD => 0x6A
  | .ldLE => 0x6B
  | .ldLH => 0x6C
  | .ldLL => 0x6D
  | .ldLIndHL => 0x6E
  | .ldLA => 0x6F
  | .ldIndHLB => 0x70
  | .ldIndHLC => 0x71
  | .ldIndHLD => 0x72
  | .ldIndHLE => 0x73
  | .ldIndHLH => 0x74
  | .ldIndHLL => 0x75
  | .ldIndHLA => 0x77
  | .ldAB => 0x78
  | .ldAC => 0x79
  | .ldAD => 0x7A
  | .ldAE => 0x7B
  | .ldAH => 0x7C
  | .ldAL => 0x7D
  | .ldAIndHL => 0x7E
  | .ldAA => 0x7F
  | .ldBImm => 0x06
  | .ldCImm => 0x0E
  | .ldDImm => 0x16
  | .ldEImm => 0x1E
  | .ldHImm => 0x26
  | .ldLImm => 0x2E
  | .ldIndHLImm => 0x36
  | .ldAImm => 0x3E
  | .ldAIndBC => 0x0A
  | .ldAIndDE => 0x1A
  | .ldIndBCA => 0x02
  | .ldIndDEA => 0x12
  | .rlcB => 0xCB
  | .rlcC => 0xCB
  | .rlcD => 0xCB
  | .rlcE => 0xCB
  | .rlcH => 0xCB
  | .rlcL => 0xCB
  | .rlcIndHL => 0xCB
  | .rlcA => 0xCB
  | .nop => 0x00
  | .halt => 0x76
  | .unknown op => op
  | .unknownCB _ => 0xCB

/-- Byte 1 of a CB-page instruction (R99). -/
def Shape.extended : Shape → Option Byte
  | .rlc (.reg .b) => some 0x00
  | .rlc (.reg .c) => some 0x01
  | .rlc (.reg .d) => some 0x02
  | .rlc (.reg .e) => some 0x03
  | .rlc (.reg .h) => some 0x04
  | .rlc (.reg .l) => some 0x05
  | .rlc (.ind .hl) => some 0x06
  | .rlc (.reg .a) => some 0x07
  | .unknown _ ext => ext
  | _ => none

/-- The bytes of an instruction (R93): the opcode, then the extended opcode (F2P) or the immediate `d8` (F2I). `d8` stands
in no other format. -/
def encode (i : Instr) (d8 : Byte) : List Byte :=
  match i.shape.extended with
  | some ext => [i.opcode, ext]
  | none => if i.shape.hasImm8 then [i.opcode, d8] else [i.opcode]

/-! ### The opcode table's numbering -/

/-- The two bytes at pc and pc + 1 of a table row's word. Its CB rows are numbered with 0xCB in bits 15 to 8 (match
0xCB00), every other row with the opcode in bits 7 to 0, and a second byte then in bits 15 to 8 (log entry 6). -/
def tableBytes (nbits w : Nat) : Byte × Byte :=
  let v := w % 2 ^ nbits
  let low := BitVec.ofNat 8 v
  let high := BitVec.ofNat 8 (v / 256)
  if high = pageByte then (high, low) else (low, high)

/-- The instruction the decoder reads from a table row's word. -/
def decodeTableWord (nbits w : Nat) : Option Instr :=
  match decodeBytes [(tableBytes nbits w).1, (tableBytes nbits w).2] with
  | .ok d _ => some d.instr
  | .reject _ => none

end Sys2Proof
end

