-- ==== Sys2Proof/Machine/State.lean ====
section
/-! DEFINITION. The architectural state (10_state.md), the errors (60_exceptions.md) and the state after creation
(70_reset_and_hazards.md). -/

namespace Sys2Proof.Machine

/-- The four flags, "four independent booleans" (10_state.md R25). -/
structure Flags where
  z : Bool
  n : Bool
  h : Bool
  c : Bool
  deriving DecidableEq, Repr

/-- The register file: the seven general registers (10_state.md R20) and the flags (R25). -/
structure RegFile where
  a : Byte
  b : Byte
  c : Byte
  d : Byte
  e : Byte
  h : Byte
  l : Byte
  flags : Flags
  deriving DecidableEq, Repr

/-- `halt_reason` (10_state.md R30). -/
inductive HaltReason where
  | none
  | pcOverflow
  | haltOpcode
  deriving DecidableEq, Repr

/-- Memory: the bytes that differ from what an unwritten address reads as, by rising address (10_state.md R31; log entry 8). -/
abbrev Memory := List Host.Cell

/-- The core's state, the tuple of 10_state.md, and the session's policy, which nothing writes (log entry 2). -/
structure State where
  regs : RegFile
  pc : Word
  halted : Bool
  haltReason : HaltReason
  mem : Memory
  unknownPolicy : UnknownPolicy
  deriving DecidableEq, Repr

/-- The errors a step may return to the host; there are exactly two (60_exceptions.md R300). Both are the spec's own, so
both are safe. The state is the state before the step (40_step.md R127; log entry 11). -/
inductive Fault where
  /-- Raised by an unmapped encoding under the strict policy (60_exceptions.md R302): opcode, extended opcode, pc. -/
  | unknownOpcode (op : Byte) (ext : Option Byte) (pc : Word)
  /-- Raised by a write through `Immediate8` (60_exceptions.md R301); no encoding reaches it (30_encoding.md R102). -/
  | invalidOperand (pc : Word)
  deriving DecidableEq, Repr

/-- What has no meaning. -/
inductive Refusal where
  /-- Raised by an arm of `exec` for an instruction not modelled yet; no arm raises it. Safe. -/
  | notModelled (mnemonic : String)
  /-- Raised by the loader's bulk write when its bytes would pass 0xFFFF (20_memory.md R77; log entry 9); no step raises it. Safe. -/
  | loadPastEnd
  deriving DecidableEq, Repr

/-- What executing gives: the next state, an error, or no meaning. -/
abbrev Result := Host.Outcome State Fault Refusal

/-- The core right after creation, before the image is loaded, for the parameters `init_regs` and `unknown_policy`
(70_reset_and_hazards.md R341 to R344, R346). -/
def State.create (init : RegFile) (policy : UnknownPolicy) : State where
  regs := init
  pc := Config.resetPc
  halted := false
  haltReason := .none
  mem := []
  unknownPolicy := policy

/-- Every register and flag 0: the value this model names for `init_regs` in `State.reset`. DESIGN CHOICE (log entry 1), unsafe. -/
def RegFile.zero : RegFile := ⟨0, 0, 0, 0, 0, 0, 0, ⟨false, false, false, false⟩⟩

/-- The machine right after reset. The registers and flags (log entry 1) and the strict policy (log entry 2) are DESIGN CHOICEs. -/
def State.reset : State := State.create RegFile.zero .strict

end Sys2Proof.Machine
end

