-- ==== Sys2Proof/Machine/Ops.lean ====
section
/-! DEFINITION. The named operations over memory, registers, pairs, flags and pc, and the raising of an error. -/

namespace Sys2Proof.Machine

/-! ### Memory (20_memory.md) -/

/-- The byte at an address; an unlisted one reads as 0 (R61). -/
def Memory.read : Memory → Nat → Byte
  | [], _ => Config.unwrittenByte
  | (k, b) :: m, a => if k = a then b else Memory.read m a

/-- Set the byte at an address, keeping the canonical form: a byte that reads as unwritten is not listed (R62; log entry 8). -/
def Memory.write : Memory → Nat → Byte → Memory
  | [], a, v => if v = Config.unwrittenByte then [] else [(a, v)]
  | (k, b) :: m, a, v =>
    if k < a then (k, b) :: Memory.write m a v
    else if k = a then (if v = Config.unwrittenByte then m else (a, v) :: m)
    else (if v = Config.unwrittenByte then (k, b) :: m else (a, v) :: (k, b) :: m)

/-- The canonical form from an address on: addresses strictly rising and inside the address space, no listed byte that
reads as an unwritten one. -/
def Memory.wfFrom : Nat → Memory → Bool
  | _, [] => true
  | lo, (k, b) :: m =>
    decide (lo ≤ k) && decide (k < Config.memorySize) && decide (b ≠ Config.unwrittenByte) && Memory.wfFrom (k + 1) m

/-- The canonical form of memory (log entry 8). -/
def Memory.wf (m : Memory) : Bool := Memory.wfFrom 0 m

/-- Write a list of bytes at rising addresses (20_memory.md R77). -/
def Memory.writeAll : Memory → Nat → List Byte → Memory
  | m, _, [] => m
  | m, a, v :: vs => Memory.writeAll (Memory.write m a v) (a + 1) vs

/-- `MemRead(addr, 1)` (R61). -/
def State.readByte (s : State) (a : Word) : Byte := Memory.read s.mem a.toNat

/-- `MemWrite(addr, 1, v)` (R62). -/
def State.writeByte (s : State) (a : Word) (v : Byte) : State := { s with mem := Memory.write s.mem a.toNat v }

/-! ### Registers, pairs and flags (10_state.md) -/

/-- `x[r]` (R20, R21). -/
def State.reg (s : State) : Reg → Byte
  | .a => s.regs.a
  | .b => s.regs.b
  | .c => s.regs.c
  | .d => s.regs.d
  | .e => s.regs.e
  | .h => s.regs.h
  | .l => s.regs.l

/-- `x[r] <- v` in the register file (R20, R21). -/
def RegFile.set (f : RegFile) (r : Reg) (v : Byte) : RegFile :=
  match r with
  | .a => { f with a := v }
  | .b => { f with b := v }
  | .c => { f with c := v }
  | .d => { f with d := v }
  | .e => { f with e := v }
  | .h => { f with h := v }
  | .l => { f with l := v }

/-- `x[r] <- v` (R20, R21). -/
def State.setReg (s : State) (r : Reg) (v : Byte) : State := { s with regs := s.regs.set r v }

/-- Write all four flags. -/
def State.setFlags (s : State) (f : Flags) : State := { s with regs := { s.regs with flags := f } }

/-- Write Z, N and H; F.C keeps its value (42_incdec.md R201, R204). -/
def State.setZNH (s : State) (z n h : Bool) : State :=
  s.setFlags { z := z, n := n, h := h, c := s.regs.flags.c }

/-- `Fbyte`: Z, N, H and C in bits 7 to 4, bits 3 to 0 always 0 (R25). -/
def Flags.byte (f : Flags) : Byte :=
  BitVec.ofBool f.z ++ BitVec.ofBool f.n ++ BitVec.ofBool f.h ++ BitVec.ofBool f.c ++ 0b0000#4

/-- The flags from bits 7 to 4 of a byte; its bits 3 to 0 are discarded (R23). -/
def Flags.ofByte (v : Byte) : Flags :=
  { z := v.getLsbD 7, n := v.getLsbD 6, h := v.getLsbD 5, c := v.getLsbD 4 }

/-- `pair[p]`: high byte the first letter, low byte the second (R22). -/
def State.pair (s : State) : Pair → Word
  | .bc => cat s.regs.b s.regs.c
  | .de => cat s.regs.d s.regs.e
  | .hl => cat s.regs.h s.regs.l
  | .af => cat s.regs.a s.regs.flags.byte

/-- Bits 15 to 8 of a word. -/
def hiByte (v : Word) : Byte := v.extractLsb' 8 8

/-- Bits 7 to 0 of a word. -/
def loByte (v : Word) : Byte := v.extractLsb' 0 8

/-- `pair[p] <- v` (R23). -/
def State.setPair (s : State) (p : Pair) (v : Word) : State :=
  match p with
  | .bc => (s.setReg .b (hiByte v)).setReg .c (loByte v)
  | .de => (s.setReg .d (hiByte v)).setReg .e (loByte v)
  | .hl => (s.setReg .h (hiByte v)).setReg .l (loByte v)
  | .af => (s.setReg .a (hiByte v)).setFlags (Flags.ofByte (loByte v))

/-! ### The program counter and the run state (40_step.md) -/

/-- The address after an address, `wrap16(a + 1)`: where the extended opcode and the immediate are (R122, R133). -/
def nextAddr (a : Word) : Word := wrap16 (a.toNat + 1)

/-- Enter Halted for a reason (10_state.md R29, R30). -/
def State.enterHalt (s : State) (why : HaltReason) : State := { s with halted := true, haltReason := why }

/-- `advance(len)` (R125): pc moves on by the length and wraps; past 0xFFFF a running core halts with PcOverflow. -/
def State.advance (s : State) (len : Nat) : State :=
  let n := s.pc.toNat + len
  let t : State := { s with pc := wrap16 n }
  if 0xFFFF < n ∧ t.halted = false then t.enterHalt .pcOverflow else t

/-! ### Results -/

/-- Go on from a next state; an error or a refusal ends it. -/
def Result.andThen (r : Result) (f : State → Result) : Result :=
  match r with
  | .next s => f s
  | .fault e => .fault e
  | .refused e => .refused e

/-- Raising an error (60_exceptions.md R308): nothing is saved, no mode or mask changes, no vector is taken; the step
returns the error to the host. There is no return from an error (R309). -/
def raise (e : Fault) : Result := .fault e

/-- The numeric code of an error, a label only (60_exceptions.md R300). -/
def Fault.code : Fault → Nat
  | .unknownOpcode _ _ _ => 1
  | .invalidOperand _ => 2

/-- The next state, where there is one. -/
def Result.state? : Result → Option State
  | .next s => some s
  | .fault _ => none
  | .refused _ => none

/-- The error, where there is one. -/
def Result.fault? : Result → Option Fault
  | .next _ => none
  | .fault e => some e
  | .refused _ => none

end Sys2Proof.Machine
end

