-- ==== Sys2Proof/Machine/Flags.lean ====
section
/-! DEFINITION. The ALU functions and their flags (41_alu8.md, 42_incdec.md, 44_rotate.md). All are pure and total (R150,
R152); sums and comparisons are of exact integers, narrowed at the end (00_scope.md R11). -/

namespace Sys2Proof.Machine

/-- What an ALU function returns: `(res, z, n, h, c)`. -/
structure AluResult where
  res : Byte
  flags : Flags
  deriving DecidableEq, Repr

/-- What INC and DEC return: `(res, z, n, h)`, with no carry output. -/
structure StepResult where
  res : Byte
  z : Bool
  n : Bool
  h : Bool
  deriving DecidableEq, Repr

/-- The low nibble of a byte, `v & 0xF`. -/
def lowNibble (v : Byte) : Nat := (v &&& 0x0F).toNat

/-- ADD (R153). -/
def aluAdd (a v : Byte) : AluResult :=
  let t := a.toNat + v.toNat
  let res := wrap8 t
  ⟨res, { z := decide (res = 0), n := false, h := decide (lowNibble a + lowNibble v > 0xF), c := decide (t > 0xFF) }⟩

/-- ADC (R157). -/
def aluAdc (a v : Byte) (cin : Bool) : AluResult :=
  let t := a.toNat + v.toNat + cin.toNat
  let res := wrap8 t
  ⟨res, { z := decide (res = 0), n := false, h := decide (lowNibble a + lowNibble v + cin.toNat > 0xF), c := decide (t > 0xFF) }⟩

/-- SUB (R161), and CP (R169), which discards `res`. -/
def aluSub (a v : Byte) : AluResult :=
  let res := BitVec.ofInt 8 ((a.toNat : Int) - v.toNat)
  ⟨res, { z := decide (res = 0), n := true, h := decide (lowNibble a < lowNibble v), c := decide (v.toNat > a.toNat) }⟩

/-- SBC (R165). -/
def aluSbc (a v : Byte) (cin : Bool) : AluResult :=
  let res := BitVec.ofInt 8 ((a.toNat : Int) - v.toNat - cin.toNat)
  ⟨res, { z := decide (res = 0), n := true, h := decide (lowNibble a < lowNibble v + cin.toNat),
          c := decide (v.toNat + cin.toNat > a.toNat) }⟩

/-- AND (R173). -/
def aluAnd (a v : Byte) : AluResult :=
  let res := a &&& v
  ⟨res, { z := decide (res = 0), n := false, h := true, c := false }⟩

/-- OR (R177). -/
def aluOr (a v : Byte) : AluResult :=
  let res := a ||| v
  ⟨res, { z := decide (res = 0), n := false, h := false, c := false }⟩

/-- XOR (R181). -/
def aluXor (a v : Byte) : AluResult :=
  let res := a ^^^ v
  ⟨res, { z := decide (res = 0), n := false, h := false, c := false }⟩

/-- INC (42_incdec.md R201). -/
def aluInc (v : Byte) : StepResult :=
  let res := wrap8 (v.toNat + 1)
  { res := res, z := decide (res = 0), n := false, h := decide (lowNibble v = 0xF) }

/-- DEC (42_incdec.md R204). -/
def aluDec (v : Byte) : StepResult :=
  let res := BitVec.ofInt 8 ((v.toNat : Int) - 1)
  { res := res, z := decide (res = 0), n := true, h := decide (lowNibble v = 0x0) }

/-- RLC (44_rotate.md R250). -/
def aluRlc (v : Byte) : AluResult :=
  let res := ((v <<< 1) &&& 0xFE) ||| (BitVec.ofBool (v.getLsbD 7)).setWidth 8
  ⟨res, { z := decide (res = 0), n := false, h := false, c := v.getLsbD 7 }⟩

end Sys2Proof.Machine
end

