-- ==== Sys2Proof/Machine/Operands.lean ====
section
/-! DEFINITION. The operand multiplexer (40_step.md R130 to R134). -/

namespace Sys2Proof.Machine

/-- The address of the immediate byte of the instruction at pc (R133). -/
def State.immAddr (s : State) : Word := nextAddr s.pc

/-- `opnd_read(s)` (R130). -/
def opndRead (x : Operand) (s : State) : Byte :=
  match x with
  | .reg r => s.reg r
  | .imm8 => s.readByte s.immAddr
  | .ind p => s.readByte (s.pair p.toPair)

/-- `opnd_write(s, v)` (R131); a write through `Immediate8` raises `InvalidOperand` before anything is written
(60_exceptions.md R301). -/
def opndWrite (x : Operand) (v : Byte) (s : State) : Result :=
  match x with
  | .reg r => .next (s.setReg r v)
  | .imm8 => raise (.invalidOperand s.pc)
  | .ind p => .next (s.writeByte (s.pair p.toPair) v)

/-- The operand source an instruction writes, if any (R124). -/
def destOperand : Shape → Option Operand
  | .nop => none
  | .halt => none
  | .alu .cp _ => none
  | .alu _ _ => some (.reg .a)
  | .inc x => some x
  | .dec x => some x
  | .rlc x => some x
  | .ld dst _ => some dst
  | .unknown _ _ => none

/-- The address an operand source is stored to, where it is memory: `pair[p]` (R132). -/
def storeAddr (x : Operand) (s : State) : Option Word :=
  match x with
  | .reg _ => none
  | .imm8 => none
  | .ind p => some (s.pair p.toPair)

/-- The address an instruction stores to, if it stores to memory. -/
def instrStoreAddr (i : Instr) (s : State) : Option Word := (destOperand i.shape).bind fun x => storeAddr x s

end Sys2Proof.Machine
end

