-- ==== Sys2Proof/Machine/Alu8.lean ====
section
/-! DEFINITION. The meanings of ADD, ADC, SUB, SBC, CP, AND, OR and XOR (41_alu8.md), over one operation each. -/

namespace Sys2Proof.Machine

/-- One accumulator operation (41_alu8.md R150): both operands and the old carry are read, then A and all four flags are
written from the ALU function's result. -/
def accWrite (f : Byte → Byte → Bool → AluResult) (src : Operand) (s : State) : Result :=
  let r := f (s.reg .a) (opndRead src s) s.regs.flags.c
  .next ((s.setReg .a r.res).setFlags r.flags)

/-- One comparison (R169): as `accWrite`, but the result is discarded and A is not written. -/
def accCompare (f : Byte → Byte → Bool → AluResult) (src : Operand) (s : State) : Result :=
  let r := f (s.reg .a) (opndRead src s) s.regs.flags.c
  .next (s.setFlags r.flags)

/-- ADD A,s (R153 to R156). -/
def addAcc (src : Operand) (s : State) : Result := accWrite (fun a v _ => aluAdd a v) src s

/-- ADC A,s (R157 to R160); the carry-in is F.C before the instruction. -/
def adcAcc (src : Operand) (s : State) : Result := accWrite aluAdc src s

/-- SUB s (R161 to R164). -/
def subAcc (src : Operand) (s : State) : Result := accWrite (fun a v _ => aluSub a v) src s

/-- SBC A,s (R165 to R168); the carry-in is F.C before the instruction. -/
def sbcAcc (src : Operand) (s : State) : Result := accWrite aluSbc src s

/-- AND s (R173 to R176). -/
def andAcc (src : Operand) (s : State) : Result := accWrite (fun a v _ => aluAnd a v) src s

/-- XOR s (R181 to R184). -/
def xorAcc (src : Operand) (s : State) : Result := accWrite (fun a v _ => aluXor a v) src s

/-- OR s (R177 to R180). -/
def orAcc (src : Operand) (s : State) : Result := accWrite (fun a v _ => aluOr a v) src s

/-- CP s (R169 to R172). -/
def cpAcc (src : Operand) (s : State) : Result := accCompare (fun a v _ => aluSub a v) src s

/-- ADD A,B (R154). -/
def execAddAB (s : State) : Result := addAcc (.reg .b) s

/-- ADD A,C (R154). -/
def execAddAC (s : State) : Result := addAcc (.reg .c) s

/-- ADD A,D (R154). -/
def execAddAD (s : State) : Result := addAcc (.reg .d) s

/-- ADD A,E (R154). -/
def execAddAE (s : State) : Result := addAcc (.reg .e) s

/-- ADD A,H (R154). -/
def execAddAH (s : State) : Result := addAcc (.reg .h) s

/-- ADD A,L (R154). -/
def execAddAL (s : State) : Result := addAcc (.reg .l) s

/-- ADD A,(HL) (R155). -/
def execAddAIndHL (s : State) : Result := addAcc (.ind .hl) s

/-- ADD A,A (R154). -/
def execAddAA (s : State) : Result := addAcc (.reg .a) s

/-- ADD A,d8 (R156). -/
def execAddAImm (s : State) : Result := addAcc .imm8 s

/-- ADC A,B (R158). -/
def execAdcAB (s : State) : Result := adcAcc (.reg .b) s

/-- ADC A,C (R158). -/
def execAdcAC (s : State) : Result := adcAcc (.reg .c) s

/-- ADC A,D (R158). -/
def execAdcAD (s : State) : Result := adcAcc (.reg .d) s

/-- ADC A,E (R158). -/
def execAdcAE (s : State) : Result := adcAcc (.reg .e) s

/-- ADC A,H (R158). -/
def execAdcAH (s : State) : Result := adcAcc (.reg .h) s

/-- ADC A,L (R158). -/
def execAdcAL (s : State) : Result := adcAcc (.reg .l) s

/-- ADC A,(HL) (R159). -/
def execAdcAIndHL (s : State) : Result := adcAcc (.ind .hl) s

/-- ADC A,A (R158). -/
def execAdcAA (s : State) : Result := adcAcc (.reg .a) s

/-- ADC A,d8 (R160). -/
def execAdcAImm (s : State) : Result := adcAcc .imm8 s

/-- SUB B (R162). -/
def execSubB (s : State) : Result := subAcc (.reg .b) s

/-- SUB C (R162). -/
def execSubC (s : State) : Result := subAcc (.reg .c) s

/-- SUB D (R162). -/
def execSubD (s : State) : Result := subAcc (.reg .d) s

/-- SUB E (R162). -/
def execSubE (s : State) : Result := subAcc (.reg .e) s

/-- SUB H (R162). -/
def execSubH (s : State) : Result := subAcc (.reg .h) s

/-- SUB L (R162). -/
def execSubL (s : State) : Result := subAcc (.reg .l) s

/-- SUB (HL) (R163). -/
def execSubIndHL (s : State) : Result := subAcc (.ind .hl) s

/-- SUB A (R162). -/
def execSubA (s : State) : Result := subAcc (.reg .a) s

/-- SUB d8 (R164). -/
def execSubImm (s : State) : Result := subAcc .imm8 s

/-- SBC A,B (R166). -/
def execSbcAB (s : State) : Result := sbcAcc (.reg .b) s

/-- SBC A,C (R166). -/
def execSbcAC (s : State) : Result := sbcAcc (.reg .c) s

/-- SBC A,D (R166). -/
def execSbcAD (s : State) : Result := sbcAcc (.reg .d) s

/-- SBC A,E (R166). -/
def execSbcAE (s : State) : Result := sbcAcc (.reg .e) s

/-- SBC A,H (R166). -/
def execSbcAH (s : State) : Result := sbcAcc (.reg .h) s

/-- SBC A,L (R166). -/
def execSbcAL (s : State) : Result := sbcAcc (.reg .l) s

/-- SBC A,(HL) (R167). -/
def execSbcAIndHL (s : State) : Result := sbcAcc (.ind .hl) s

/-- SBC A,A (R166). -/
def execSbcAA (s : State) : Result := sbcAcc (.reg .a) s

/-- SBC A,d8 (R168). -/
def execSbcAImm (s : State) : Result := sbcAcc .imm8 s

/-- AND B (R174). -/
def execAndB (s : State) : Result := andAcc (.reg .b) s

/-- AND C (R174). -/
def execAndC (s : State) : Result := andAcc (.reg .c) s

/-- AND D (R174). -/
def execAndD (s : State) : Result := andAcc (.reg .d) s

/-- AND E (R174). -/
def execAndE (s : State) : Result := andAcc (.reg .e) s

/-- AND H (R174). -/
def execAndH (s : State) : Result := andAcc (.reg .h) s

/-- AND L (R174). -/
def execAndL (s : State) : Result := andAcc (.reg .l) s

/-- AND (HL) (R175). -/
def execAndIndHL (s : State) : Result := andAcc (.ind .hl) s

/-- AND A (R174). -/
def execAndA (s : State) : Result := andAcc (.reg .a) s

/-- AND d8 (R176). -/
def execAndImm (s : State) : Result := andAcc .imm8 s

/-- XOR B (R182). -/
def execXorB (s : State) : Result := xorAcc (.reg .b) s

/-- XOR C (R182). -/
def execXorC (s : State) : Result := xorAcc (.reg .c) s

/-- XOR D (R182). -/
def execXorD (s : State) : Result := xorAcc (.reg .d) s

/-- XOR E (R182). -/
def execXorE (s : State) : Result := xorAcc (.reg .e) s

/-- XOR H (R182). -/
def execXorH (s : State) : Result := xorAcc (.reg .h) s

/-- XOR L (R182). -/
def execXorL (s : State) : Result := xorAcc (.reg .l) s

/-- XOR (HL) (R183). -/
def execXorIndHL (s : State) : Result := xorAcc (.ind .hl) s

/-- XOR A (R182). -/
def execXorA (s : State) : Result := xorAcc (.reg .a) s

/-- XOR d8 (R184). -/
def execXorImm (s : State) : Result := xorAcc .imm8 s

/-- OR B (R178). -/
def execOrB (s : State) : Result := orAcc (.reg .b) s

/-- OR C (R178). -/
def execOrC (s : State) : Result := orAcc (.reg .c) s

/-- OR D (R178). -/
def execOrD (s : State) : Result := orAcc (.reg .d) s

/-- OR E (R178). -/
def execOrE (s : State) : Result := orAcc (.reg .e) s

/-- OR H (R178). -/
def execOrH (s : State) : Result := orAcc (.reg .h) s

/-- OR L (R178). -/
def execOrL (s : State) : Result := orAcc (.reg .l) s

/-- OR (HL) (R179). -/
def execOrIndHL (s : State) : Result := orAcc (.ind .hl) s

/-- OR A (R178). -/
def execOrA (s : State) : Result := orAcc (.reg .a) s

/-- OR d8 (R180). -/
def execOrImm (s : State) : Result := orAcc .imm8 s

/-- CP B (R170). -/
def execCpB (s : State) : Result := cpAcc (.reg .b) s

/-- CP C (R170). -/
def execCpC (s : State) : Result := cpAcc (.reg .c) s

/-- CP D (R170). -/
def execCpD (s : State) : Result := cpAcc (.reg .d) s

/-- CP E (R170). -/
def execCpE (s : State) : Result := cpAcc (.reg .e) s

/-- CP H (R170). -/
def execCpH (s : State) : Result := cpAcc (.reg .h) s

/-- CP L (R170). -/
def execCpL (s : State) : Result := cpAcc (.reg .l) s

/-- CP (HL) (R171). -/
def execCpIndHL (s : State) : Result := cpAcc (.ind .hl) s

/-- CP A (R170). -/
def execCpA (s : State) : Result := cpAcc (.reg .a) s

/-- CP d8 (R172). -/
def execCpImm (s : State) : Result := cpAcc .imm8 s

end Sys2Proof.Machine
end

