-- ==== Sys2Proof/Machine/Control.lean ====
section
/-! DEFINITION. The meanings of NOP and HALT (45_control.md) and of an unmapped encoding (60_exceptions.md). -/

namespace Sys2Proof.Machine

/-- NOP: execute does nothing (45_control.md R270). -/
def execNop (s : State) : Result := .next s

/-- HALT: the core enters Halted with halt_reason HaltOpcode (45_control.md R272). -/
def execHalt (s : State) : Result := .next (s.enterHalt .haltOpcode)

/-- An unmapped encoding under the session's policy: `UnknownOpcode` (strict, 60_exceptions.md R302), or nothing
(permissive, R303), where the step then advances pc by the encoding's length. -/
def unmapped (op : Byte) (ext : Option Byte) (s : State) : Result :=
  match s.unknownPolicy with
  | .strict => raise (.unknownOpcode op ext s.pc)
  | .permissive => .next s

/-- An unmapped base opcode (30_encoding.md R100). -/
def execUnknown (op : Byte) (s : State) : Result := unmapped op none s

/-- An unmapped extended opcode of the CB page (30_encoding.md R100). -/
def execUnknownCB (ext : Byte) (s : State) : Result := unmapped pageByte (some ext) s

end Sys2Proof.Machine
end

