-- ==== Sys2Proof/Machine/IncDec.lean ====
section
/-! DEFINITION. The meanings of INC and DEC (42_incdec.md). -/

namespace Sys2Proof.Machine

/-- Read the operand, write the function's result back to it, then write Z, N and H; F.C keeps its value
(42_incdec.md R200 to R206). -/
def stepOperand (f : Byte → StepResult) (x : Operand) (s : State) : Result :=
  let r := f (opndRead x s)
  (opndWrite x r.res s).andThen fun t => .next (t.setZNH r.z r.n r.h)

/-- INC s (R201 to R203). -/
def incOperand (x : Operand) (s : State) : Result := stepOperand aluInc x s

/-- DEC s (R204 to R206). -/
def decOperand (x : Operand) (s : State) : Result := stepOperand aluDec x s

/-- INC B (R202). -/
def execIncB (s : State) : Result := incOperand (.reg .b) s

/-- INC C (R202). -/
def execIncC (s : State) : Result := incOperand (.reg .c) s

/-- INC D (R202). -/
def execIncD (s : State) : Result := incOperand (.reg .d) s

/-- INC E (R202). -/
def execIncE (s : State) : Result := incOperand (.reg .e) s

/-- INC H (R202). -/
def execIncH (s : State) : Result := incOperand (.reg .h) s

/-- INC L (R202). -/
def execIncL (s : State) : Result := incOperand (.reg .l) s

/-- INC (HL) (R203). -/
def execIncIndHL (s : State) : Result := incOperand (.ind .hl) s

/-- INC A (R202). -/
def execIncA (s : State) : Result := incOperand (.reg .a) s

/-- DEC B (R205). -/
def execDecB (s : State) : Result := decOperand (.reg .b) s

/-- DEC C (R205). -/
def execDecC (s : State) : Result := decOperand (.reg .c) s

/-- DEC D (R205). -/
def execDecD (s : State) : Result := decOperand (.reg .d) s

/-- DEC E (R205). -/
def execDecE (s : State) : Result := decOperand (.reg .e) s

/-- DEC H (R205). -/
def execDecH (s : State) : Result := decOperand (.reg .h) s

/-- DEC L (R205). -/
def execDecL (s : State) : Result := decOperand (.reg .l) s

/-- DEC (HL) (R206). -/
def execDecIndHL (s : State) : Result := decOperand (.ind .hl) s

/-- DEC A (R205). -/
def execDecA (s : State) : Result := decOperand (.reg .a) s

end Sys2Proof.Machine
end

