-- ==== Sys2Proof/Machine/Load.lean ====
section
/-! DEFINITION. The meanings of the 8-bit loads (43_load.md). -/

namespace Sys2Proof.Machine

/-- `Ld(dst, src)`: read the source operand once and write that value to the destination; no flag is written
(43_load.md R220). -/
def loadOperand (dst src : Operand) (s : State) : Result := opndWrite dst (opndRead src s) s

/-- LD B,B (R221). -/
def execLdBB (s : State) : Result := loadOperand (.reg .b) (.reg .b) s

/-- LD B,C (R221). -/
def execLdBC (s : State) : Result := loadOperand (.reg .b) (.reg .c) s

/-- LD B,D (R221). -/
def execLdBD (s : State) : Result := loadOperand (.reg .b) (.reg .d) s

/-- LD B,E (R221). -/
def execLdBE (s : State) : Result := loadOperand (.reg .b) (.reg .e) s

/-- LD B,H (R221). -/
def execLdBH (s : State) : Result := loadOperand (.reg .b) (.reg .h) s

/-- LD B,L (R221). -/
def execLdBL (s : State) : Result := loadOperand (.reg .b) (.reg .l) s

/-- LD B,(HL) (R222). -/
def execLdBIndHL (s : State) : Result := loadOperand (.reg .b) (.ind .hl) s

/-- LD B,A (R221). -/
def execLdBA (s : State) : Result := loadOperand (.reg .b) (.reg .a) s

/-- LD C,B (R221). -/
def execLdCB (s : State) : Result := loadOperand (.reg .c) (.reg .b) s

/-- LD C,C (R221). -/
def execLdCC (s : State) : Result := loadOperand (.reg .c) (.reg .c) s

/-- LD C,D (R221). -/
def execLdCD (s : State) : Result := loadOperand (.reg .c) (.reg .d) s

/-- LD C,E (R221). -/
def execLdCE (s : State) : Result := loadOperand (.reg .c) (.reg .e) s

/-- LD C,H (R221). -/
def execLdCH (s : State) : Result := loadOperand (.reg .c) (.reg .h) s

/-- LD C,L (R221). -/
def execLdCL (s : State) : Result := loadOperand (.reg .c) (.reg .l) s

/-- LD C,(HL) (R222). -/
def execLdCIndHL (s : State) : Result := loadOperand (.reg .c) (.ind .hl) s

/-- LD C,A (R221). -/
def execLdCA (s : State) : Result := loadOperand (.reg .c) (.reg .a) s

/-- LD D,B (R221). -/
def execLdDB (s : State) : Result := loadOperand (.reg .d) (.reg .b) s

/-- LD D,C (R221). -/
def execLdDC (s : State) : Result := loadOperand (.reg .d) (.reg .c) s

/-- LD D,D (R221). -/
def execLdDD (s : State) : Result := loadOperand (.reg .d) (.reg .d) s

/-- LD D,E (R221). -/
def execLdDE (s : State) : Result := loadOperand (.reg .d) (.reg .e) s

/-- LD D,H (R221). -/
def execLdDH (s : State) : Result := loadOperand (.reg .d) (.reg .h) s

/-- LD D,L (R221). -/
def execLdDL (s : State) : Result := loadOperand (.reg .d) (.reg .l) s

/-- LD D,(HL) (R222). -/
def execLdDIndHL (s : State) : Result := loadOperand (.reg .d) (.ind .hl) s

/-- LD D,A (R221). -/
def execLdDA (s : State) : Result := loadOperand (.reg .d) (.reg .a) s

/-- LD E,B (R221). -/
def execLdEB (s : State) : Result := loadOperand (.reg .e) (.reg .b) s

/-- LD E,C (R221). -/
def execLdEC (s : State) : Result := loadOperand (.reg .e) (.reg .c) s

/-- LD E,D (R221). -/
def execLdED (s : State) : Result := loadOperand (.reg .e) (.reg .d) s

/-- LD E,E (R221). -/
def execLdEE (s : State) : Result := loadOperand (.reg .e) (.reg .e) s

/-- LD E,H (R221). -/
def execLdEH (s : State) : Result := loadOperand (.reg .e) (.reg .h) s

/-- LD E,L (R221). -/
def execLdEL (s : State) : Result := loadOperand (.reg .e) (.reg .l) s

/-- LD E,(HL) (R222). -/
def execLdEIndHL (s : State) : Result := loadOperand (.reg .e) (.ind .hl) s

/-- LD E,A (R221). -/
def execLdEA (s : State) : Result := loadOperand (.reg .e) (.reg .a) s

/-- LD H,B (R221). -/
def execLdHB (s : State) : Result := loadOperand (.reg .h) (.reg .b) s

/-- LD H,C (R221). -/
def execLdHC (s : State) : Result := loadOperand (.reg .h) (.reg .c) s

/-- LD H,D (R221). -/
def execLdHD (s : State) : Result := loadOperand (.reg .h) (.reg .d) s

/-- LD H,E (R221). -/
def execLdHE (s : State) : Result := loadOperand (.reg .h) (.reg .e) s

/-- LD H,H (R221). -/
def execLdHH (s : State) : Result := loadOperand (.reg .h) (.reg .h) s

/-- LD H,L (R221). -/
def execLdHL (s : State) : Result := loadOperand (.reg .h) (.reg .l) s

/-- LD H,(HL) (R222). -/
def execLdHIndHL (s : State) : Result := loadOperand (.reg .h) (.ind .hl) s

/-- LD H,A (R221). -/
def execLdHA (s : State) : Result := loadOperand (.reg .h) (.reg .a) s

/-- LD L,B (R221). -/
def execLdLB (s : State) : Result := loadOperand (.reg .l) (.reg .b) s

/-- LD L,C (R221). -/
def execLdLC (s : State) : Result := loadOperand (.reg .l) (.reg .c) s

/-- LD L,D (R221). -/
def execLdLD (s : State) : Result := loadOperand (.reg .l) (.reg .d) s

/-- LD L,E (R221). -/
def execLdLE (s : State) : Result := loadOperand (.reg .l) (.reg .e) s

/-- LD L,H (R221). -/
def execLdLH (s : State) : Result := loadOperand (.reg .l) (.reg .h) s

/-- LD L,L (R221). -/
def execLdLL (s : State) : Result := loadOperand (.reg .l) (.reg .l) s

/-- LD L,(HL) (R222). -/
def execLdLIndHL (s : State) : Result := loadOperand (.reg .l) (.ind .hl) s

/-- LD L,A (R221). -/
def execLdLA (s : State) : Result := loadOperand (.reg .l) (.reg .a) s

/-- LD (HL),B (R223). -/
def execLdIndHLB (s : State) : Result := loadOperand (.ind .hl) (.reg .b) s

/-- LD (HL),C (R223). -/
def execLdIndHLC (s : State) : Result := loadOperand (.ind .hl) (.reg .c) s

/-- LD (HL),D (R223). -/
def execLdIndHLD (s : State) : Result := loadOperand (.ind .hl) (.reg .d) s

/-- LD (HL),E (R223). -/
def execLdIndHLE (s : State) : Result := loadOperand (.ind .hl) (.reg .e) s

/-- LD (HL),H (R223). -/
def execLdIndHLH (s : State) : Result := loadOperand (.ind .hl) (.reg .h) s

/-- LD (HL),L (R223). -/
def execLdIndHLL (s : State) : Result := loadOperand (.ind .hl) (.reg .l) s

/-- LD (HL),A (R223). -/
def execLdIndHLA (s : State) : Result := loadOperand (.ind .hl) (.reg .a) s

/-- LD A,B (R221). -/
def execLdAB (s : State) : Result := loadOperand (.reg .a) (.reg .b) s

/-- LD A,C (R221). -/
def execLdAC (s : State) : Result := loadOperand (.reg .a) (.reg .c) s

/-- LD A,D (R221). -/
def execLdAD (s : State) : Result := loadOperand (.reg .a) (.reg .d) s

/-- LD A,E (R221). -/
def execLdAE (s : State) : Result := loadOperand (.reg .a) (.reg .e) s

/-- LD A,H (R221). -/
def execLdAH (s : State) : Result := loadOperand (.reg .a) (.reg .h) s

/-- LD A,L (R221). -/
def execLdAL (s : State) : Result := loadOperand (.reg .a) (.reg .l) s

/-- LD A,(HL) (R222). -/
def execLdAIndHL (s : State) : Result := loadOperand (.reg .a) (.ind .hl) s

/-- LD A,A (R221). -/
def execLdAA (s : State) : Result := loadOperand (.reg .a) (.reg .a) s

/-- LD B,d8 (R224). -/
def execLdBImm (s : State) : Result := loadOperand (.reg .b) .imm8 s

/-- LD C,d8 (R224). -/
def execLdCImm (s : State) : Result := loadOperand (.reg .c) .imm8 s

/-- LD D,d8 (R224). -/
def execLdDImm (s : State) : Result := loadOperand (.reg .d) .imm8 s

/-- LD E,d8 (R224). -/
def execLdEImm (s : State) : Result := loadOperand (.reg .e) .imm8 s

/-- LD H,d8 (R224). -/
def execLdHImm (s : State) : Result := loadOperand (.reg .h) .imm8 s

/-- LD L,d8 (R224). -/
def execLdLImm (s : State) : Result := loadOperand (.reg .l) .imm8 s

/-- LD (HL),d8 (R225). -/
def execLdIndHLImm (s : State) : Result := loadOperand (.ind .hl) .imm8 s

/-- LD A,d8 (R224). -/
def execLdAImm (s : State) : Result := loadOperand (.reg .a) .imm8 s

/-- LD A,(BC) (R226). -/
def execLdAIndBC (s : State) : Result := loadOperand (.reg .a) (.ind .bc) s

/-- LD A,(DE) (R227). -/
def execLdAIndDE (s : State) : Result := loadOperand (.reg .a) (.ind .de) s

/-- LD (BC),A (R228). -/
def execLdIndBCA (s : State) : Result := loadOperand (.ind .bc) (.reg .a) s

/-- LD (DE),A (R229). -/
def execLdIndDEA (s : State) : Result := loadOperand (.ind .de) (.reg .a) s

end Sys2Proof.Machine
end

