-- ==== Sys2Proof/Machine/Rotate.lean ====
section
/-! DEFINITION. The meanings of RLC on the CB page (44_rotate.md). -/

namespace Sys2Proof.Machine

/-- RLC s: read the operand, write the rotated value back to it, then write all four flags (44_rotate.md R250 to R252). -/
def rlcOperand (x : Operand) (s : State) : Result :=
  let r := aluRlc (opndRead x s)
  (opndWrite x r.res s).andThen fun t => .next (t.setFlags r.flags)

/-- RLC B (R251). -/
def execRlcB (s : State) : Result := rlcOperand (.reg .b) s

/-- RLC C (R251). -/
def execRlcC (s : State) : Result := rlcOperand (.reg .c) s

/-- RLC D (R251). -/
def execRlcD (s : State) : Result := rlcOperand (.reg .d) s

/-- RLC E (R251). -/
def execRlcE (s : State) : Result := rlcOperand (.reg .e) s

/-- RLC H (R251). -/
def execRlcH (s : State) : Result := rlcOperand (.reg .h) s

/-- RLC L (R251). -/
def execRlcL (s : State) : Result := rlcOperand (.reg .l) s

/-- RLC (HL) (R252). -/
def execRlcIndHL (s : State) : Result := rlcOperand (.ind .hl) s

/-- RLC A (R251). -/
def execRlcA (s : State) : Result := rlcOperand (.reg .a) s

end Sys2Proof.Machine
end

