-- ==== Sys2Proof/Machine/Sequencer.lean ====
section
/-! DEFINITION. Fetch, decode, execute, advance (40_step.md R120 to R127), and placing an instruction where it is fetched. -/

namespace Sys2Proof.Machine

/-- Fetch the opcode at pc and the byte after it, and decode (R122, R123; log entry 5). -/
def State.fetchDecode (s : State) : Decoded := decode (s.readByte s.pc) (s.readByte (nextAddr s.pc))

/-- The step of a running core (R121): execute with pc at the opcode, then advance by the length. -/
def stepRunning (s : State) : Result :=
  let d := s.fetchDecode
  Result.andThen (exec d.instr s) fun t => .next (t.advance d.len)

/-- The whole step (R121): a halted core does nothing (R126). -/
def sequence (s : State) : Result := if s.halted then .next s else stepRunning s

/-- Place two bytes at pc and pc + 1 and have the core Running, as a session's loading does (log entry 7). -/
def State.placeAtPc (s : State) (b0 b1 : Byte) : State :=
  let t := (s.writeByte s.pc b0).writeByte (nextAddr s.pc) b1
  if t.halted then { t with halted := false, haltReason := .none } else t

end Sys2Proof.Machine
end

