-- ==== Sys2Proof/Machine/Step.lean ====
section
/-! DEFINITION. The core's only transition (40_step.md R120). -/

namespace Sys2Proof.Machine

/-- `step()` (40_step.md R121). -/
def step (s : State) : Host.Outcome State Fault Refusal := sequence s

/-- The state with a table row's word stored where the next step fetches it (log entries 6 and 7). -/
def State.withFetchWord (s : State) (nbits w : Nat) : State :=
  s.placeAtPc (tableBytes nbits w).1 (tableBytes nbits w).2

end Sys2Proof.Machine
end

