-- ==== Sys2Proof/Machine/Assembler.lean ====
section
/-! DEFINITION. The assembly text of an instruction and the assembler of one line (30_encoding.md R103, R104; log entry 16).
Text is a list of characters. -/

namespace Sys2Proof

def Reg.text : Reg → List Char
  | .a => ['A']
  | .b => ['B']
  | .c => ['C']
  | .d => ['D']
  | .e => ['E']
  | .h => ['H']
  | .l => ['L']

def AddrPair.text : AddrPair → List Char
  | .bc => ['(', 'B', 'C', ')']
  | .de => ['(', 'D', 'E', ')']
  | .hl => ['(', 'H', 'L', ')']

def hexDigits : List Char := ['0', '1', '2', '3', '4', '5', '6', '7', '8', '9', 'A', 'B', 'C', 'D', 'E', 'F']

/-- A byte as `0x` and two hexadecimal digits. -/
def hexText (v : Byte) : List Char := ['0', 'x', hexDigits.getD (v.toNat / 16) '0', hexDigits.getD (v.toNat % 16) '0']

/-- An operand's text; `d8` is the immediate's value. -/
def Operand.text (x : Operand) (d8 : Byte) : List Char :=
  match x with
  | .reg r => r.text
  | .imm8 => hexText d8
  | .ind p => p.text

def AluOp.text : AluOp → List Char
  | .add => ['A', 'D', 'D']
  | .adc => ['A', 'D', 'C']
  | .sub => ['S', 'U', 'B']
  | .sbc => ['S', 'B', 'C']
  | .and => ['A', 'N', 'D']
  | .xor => ['X', 'O', 'R']
  | .or => ['O', 'R']
  | .cp => ['C', 'P']

/-- ADD, ADC and SBC are written with `A,s`, the others with `s` (R103). -/
def AluOp.namesA : AluOp → Bool
  | .add => true
  | .adc => true
  | .sub => false
  | .sbc => true
  | .and => false
  | .xor => false
  | .or => false
  | .cp => false

/-- The line an instruction is written as (R103); an unmapped encoding has none. -/
def Shape.text (f : Shape) (d8 : Byte) : Option (List Char) :=
  match f with
  | .nop => some ['N', 'O', 'P']
  | .halt => some ['H', 'A', 'L', 'T']
  | .alu op src => some (op.text ++ [' '] ++ (if op.namesA then ['A', ','] else []) ++ src.text d8)
  | .inc x => some (['I', 'N', 'C', ' '] ++ x.text d8)
  | .dec x => some (['D', 'E', 'C', ' '] ++ x.text d8)
  | .rlc x => some (['R', 'L', 'C', ' '] ++ x.text d8)
  | .ld dst src => some (['L', 'D', ' '] ++ dst.text d8 ++ [','] ++ src.text d8)
  | .unknown _ _ => none

/-- The r field's value that selects an operand source, where one does (R91). -/
def Operand.rSel? : Operand → Option RSel
  | .reg .a => some .a
  | .reg .b => some .b
  | .reg .c => some .c
  | .reg .d => some .d
  | .reg .e => some .e
  | .reg .h => some .h
  | .reg .l => some .l
  | .ind .hl => some .indHL
  | .ind .bc => none
  | .ind .de => none
  | .imm8 => none

/-- The load of a source operand to a destination, where R97 has one; (HL) to (HL) is HALT's place, and no load. -/
def loadOf (dst src : Operand) : Option Instr :=
  if dst = .reg .a ∧ src = .ind .bc then some .ldAIndBC
  else if dst = .reg .a ∧ src = .ind .de then some .ldAIndDE
  else if dst = .ind .bc ∧ src = .reg .a then some .ldIndBCA
  else if dst = .ind .de ∧ src = .reg .a then some .ldIndDEA
  else if dst = .ind .hl ∧ src = .ind .hl then none
  else if src = .imm8 then dst.rSel?.map ldImmOf
  else dst.rSel?.bind fun f => src.rSel?.map (ldOf f)

/-- The instruction of an operation and its operand sources, where R97 has one. -/
def instrOf : Shape → Option Instr
  | .nop => some .nop
  | .halt => some .halt
  | .alu op src => if src = .imm8 then some (aluImmOf op) else src.rSel?.map (aluOf op)
  | .inc x => x.rSel?.map incOf
  | .dec x => x.rSel?.map decOf
  | .rlc x => x.rSel?.map rlcOf
  | .ld dst src => loadOf dst src
  | .unknown _ _ => none

/-! ### Reading a line -/

/-- The value of a hexadecimal digit, in either case. -/
def hexValue (c : Char) : Option Nat :=
  if 48 ≤ c.toNat ∧ c.toNat ≤ 57 then some (c.toNat - 48)
  else if 65 ≤ c.toNat ∧ c.toNat ≤ 70 then some (c.toNat - 55)
  else if 97 ≤ c.toNat ∧ c.toNat ≤ 102 then some (c.toNat - 87)
  else none

/-- The value of decimal digits read after a value. -/
def decimalFrom : Nat → List Char → Option Nat
  | n, [] => some n
  | n, c :: cs => if 48 ≤ c.toNat ∧ c.toNat ≤ 57 then decimalFrom (10 * n + (c.toNat - 48)) cs else none

/-- A decimal number from 0 to 255. -/
def readDecimal (cs : List Char) : Option Byte :=
  if cs = [] then none else (decimalFrom 0 cs).bind fun n => if n ≤ 255 then some (wrap8 n) else none

/-- An immediate: `0x` and two hexadecimal digits, or a decimal number from 0 to 255 (R103). -/
def readImmediate (cs : List Char) : Option Byte :=
  match cs with
  | [zero, ex, hi, lo] =>
    if zero = '0' ∧ ex = 'x' then (hexValue hi).bind fun m => (hexValue lo).map fun n => wrap8 (16 * m + n)
    else readDecimal cs
  | _ => readDecimal cs

/-- The operand sources that have a name. -/
def namedOperands : List Operand :=
  [.reg .a, .reg .b, .reg .c, .reg .d, .reg .e, .reg .h, .reg .l, .ind .bc, .ind .de, .ind .hl]

/-- An operand and, for an immediate, its value. -/
def readOperand (cs : List Char) : Option (Operand × Byte) :=
  match namedOperands.find? fun x => x.text 0 == cs with
  | some x => some (x, 0)
  | none => (readImmediate cs).map fun v => (.imm8, v)

/-- The operation of an ALU mnemonic. -/
def readAluOp (cs : List Char) : Option AluOp :=
  [AluOp.add, .adc, .sub, .sbc, .and, .xor, .or, .cp].find? fun op => op.text == cs

/-- A mnemonic and its operands, with the immediate's value. `SUB A,s`, `AND A,s`, `XOR A,s`, `OR A,s` and `CP A,s` are
accepted as `SUB s` and so on (R103). -/
def readShape (m : List Char) (ops : List (Operand × Byte)) : Option (Shape × Byte) :=
  match ops with
  | [] => if m = ['N', 'O', 'P'] then some (.nop, 0) else if m = ['H', 'A', 'L', 'T'] then some (.halt, 0) else none
  | [(x, v)] =>
    if m = ['I', 'N', 'C'] then some (.inc x, v)
    else if m = ['D', 'E', 'C'] then some (.dec x, v)
    else if m = ['R', 'L', 'C'] then some (.rlc x, v)
    else (readAluOp m).bind fun op => if op.namesA then none else some (.alu op x, v)
  | [(d, _), (x, v)] =>
    if m = ['L', 'D'] then some (.ld d x, v)
    else (readAluOp m).bind fun op => if d = .reg .a then some (.alu op x, v) else none
  | _ => none

/-- Cut a list of characters at its commas. -/
def cutCommas : List Char → List (List Char)
  | [] => [[]]
  | c :: cs =>
    if c = ',' then [] :: cutCommas cs
    else match cutCommas cs with
      | [] => [[c]]
      | w :: ws => (c :: w) :: ws

/-- The operands of a line, after the space that follows its mnemonic. -/
def readOperands (rest : List Char) : Option (List (Operand × Byte)) :=
  match rest with
  | [] => some []
  | _ :: cs => (cutCommas cs).mapM readOperand

/-- Assemble one line to its bytes (R103, R104). -/
def assemble (line : List Char) : Option (List Byte) :=
  (readOperands (line.dropWhile (· ≠ ' '))).bind fun ops =>
    (readShape (line.takeWhile (· ≠ ' ')) ops).bind fun fv =>
      (instrOf fv.1).map fun i => encode i fv.2

end Sys2Proof
end

