-- ==== Sys2Proof/Machine/Session.lean ====
section
/-! DEFINITION. The host contract (40_step.md R140 to R142) and the boot of a session (70_reset_and_hazards.md R345, R347). -/

namespace Sys2Proof.Machine

/-- `load(offset, bytes)` (20_memory.md R77): `mem[offset + i] <- bytes[i]`; a call that would pass 0xFFFF is refused
(log entry 9). The core never calls it. -/
def load (offset : Nat) (bytes : List Byte) (s : State) : Result :=
  if offset + bytes.length ≤ Config.memorySize then .next { s with mem := Memory.writeAll s.mem offset bytes }
  else .refused .loadPastEnd

/-- Create the core and load the image at address 0 (R340, R345, R347). -/
def boot (init : RegFile) (policy : UnknownPolicy) (image : List Byte) : Result :=
  load 0 image (State.create init policy)

/-- The name of one flag (10_state.md R25). -/
inductive FlagName where
  | z | n | h | c
  deriving DecidableEq, Repr

/-- `F.X <- b` (00_scope.md R12). -/
def State.setFlag (s : State) (x : FlagName) (b : Bool) : State :=
  match x with
  | .z => s.setFlags { s.regs.flags with z := b }
  | .n => s.setFlags { s.regs.flags with n := b }
  | .h => s.setFlags { s.regs.flags with h := b }
  | .c => s.setFlags { s.regs.flags with c := b }

/-- A write the host or a peripheral may make between two steps (40_step.md R141; 20_memory.md R76; log entry 10). -/
inductive HostAction where
  | setReg (r : Reg) (v : Byte)
  | setPair (p : Pair) (v : Word)
  | setFlag (x : FlagName) (b : Bool)
  | setPc (a : Word)
  | setByte (a : Word) (v : Byte)
  deriving DecidableEq, Repr

/-- What a host write does. None clears `halted` (R141). -/
def HostAction.apply (x : HostAction) (s : State) : State :=
  match x with
  | .setReg r v => s.setReg r v
  | .setPair p v => s.setPair p v
  | .setFlag f b => s.setFlag f b
  | .setPc a => { s with pc := a }
  | .setByte a v => s.writeByte a v

/-- One event of a run: a call of `step`, or a host write between two steps (R141). -/
inductive Event where
  | step
  | host (x : HostAction)
  deriving DecidableEq, Repr

/-- How a run stands when its events are over (R142). `refused` is no end of the spec's: it stands for a step without a
meaning, and no step of this model is one. -/
inductive RunEnd where
  | final (s : State)
  | unfinished (s : State)
  | faulted (e : Fault) (s : State)
  | refused (e : Refusal) (s : State)
  deriving DecidableEq, Repr

/-- A run from a state (R142). An error ends it, with the state before the failing step (R127; log entry 11). -/
def run : List Event → State → RunEnd
  | [], s => if s.halted then .final s else .unfinished s
  | .host x :: es, s => run es (x.apply s)
  | .step :: es, s =>
    match step s with
    | .next t => run es t
    | .fault e => .faulted e s
    | .refused e => .refused e s

end Sys2Proof.Machine
end

