-- ==== Sys2Proof/Safety.lean ====
section
/-! DEFINITION. What counts as a legal state and a safe end of a run. -/

namespace Sys2Proof.Machine

/-- The states the spec admits: memory in its canonical form (log entry 8), and `halt_reason` None exactly when `halted` is
false (10_state.md R30). -/
def State.Inv (s : State) : Prop :=
  s.mem.wf = true ∧ (s.haltReason = .none ↔ s.halted = false)

/-- A run that no error ended (40_step.md R142). -/
def RunEnd.Safe : RunEnd → Prop
  | .final _ => True
  | .unfinished _ => True
  | .faulted _ _ => False
  | .refused _ _ => False

end Sys2Proof.Machine
end

