-- ==== Sys2Proof/Certificates/Slice0/Obligations.lean ====
section
/-! DEFINITION. The statements about the core, from the numbered rules of spec/. Each is a proposition to be proved. Its
witnesses are in Tests/Slice0.lean. -/

open Sys2Proof Sys2Proof.Machine

/-- For every well-formed instruction, every value d8 of its immediate byte and every bytes that follow, decoding the
encoded bytes gives the instruction, its length, and exactly the bytes that follow. (R95, R97, R98, R99, R100) -/
def Obligations.DecodeEncodeRoundTrip : Prop :=
  ∀ (i : Instr) (d8 : Byte) (rest : List Byte), i.WellFormed →
    decodeBytes (encode i d8 ++ rest) = .ok ⟨i, i.len⟩ rest

/-- For all bytes b0 and b1 the decoded instruction is well formed, the length reported is the length of that
instruction, and encoding it with b1 as the immediate gives the first len bytes of b0, b1 back. So no two encodings
share an instruction and the decoder is total. (R95, R97, R98, R99, R100) -/
def Obligations.EncodeOfDecodedBytes : Prop :=
  ∀ b0 b1 : Byte,
    (decode b0 b1).instr.WellFormed ∧
    (decode b0 b1).len = (decode b0 b1).instr.len ∧
    encode (decode b0 b1).instr b1 = [b0, b1].take (decode b0 b1).len

/-- The bytes 3E 05, 06 03, 80 and FF of the source, and one word of every family, decode to the instructions and
lengths the spec gives them. (R97, R98, R99, V1 of 95_test_vectors.md) -/
def Obligations.SpecWordsDecode : Prop :=
  decode 0b00111110 0x05 = ⟨.ldAImm, 2⟩ ∧
  decode 0b00000110 0x03 = ⟨.ldBImm, 2⟩ ∧
  decode 0b10000000 0x00 = ⟨.addAB, 1⟩ ∧
  decode 0b11111111 0x00 = ⟨.unknown 0xFF, 1⟩ ∧
  decode 0b01110110 0x00 = ⟨.halt, 1⟩ ∧
  decode 0b00000000 0xCB = ⟨.nop, 1⟩ ∧
  decode 0b00110100 0x00 = ⟨.incIndHL, 1⟩ ∧
  decode 0b00011101 0x00 = ⟨.decE, 1⟩ ∧
  decode 0b01101110 0x00 = ⟨.ldLIndHL, 1⟩ ∧
  decode 0b00010010 0x00 = ⟨.ldIndDEA, 1⟩ ∧
  decode 0b11101110 0x0F = ⟨.xorImm, 2⟩ ∧
  decode 0b11001011 0b00000110 = ⟨.rlcIndHL, 2⟩ ∧
  decode 0b11001011 0b00110111 = ⟨.unknownCB 0x37, 2⟩

/-- For all values of the three-bit fields ddd, sss and ooo and every second byte: 01 ddd sss is Ld(S(ddd), S(sss)), or
HALT where both are 110; 10 ooo sss is Alu(O(ooo), S(sss)); 11 ooo 110 is Alu(O(ooo), Immediate8); 00 ddd 100, 101
and 110 are Inc(S(ddd)), Dec(S(ddd)) and Ld(S(ddd), Immediate8); CB 00 000 sss is Rlc(S(sss)). (R91, R92, R97, R98,
R99) -/
def Obligations.FieldsSelectOperationAndOperands : Prop :=
  ∀ (f g : BitVec 3) (b1 : Byte),
    (decode (0b01#2 ++ f ++ g) b1).instr.shape =
      (if f = 0b110 ∧ g = 0b110 then .halt else .ld (rSel f).operand (rSel g).operand) ∧
    (decode (0b10#2 ++ f ++ g) b1).instr.shape = .alu (aluSel f) (rSel g).operand ∧
    (decode (0b11#2 ++ f ++ 0b110#3) b1).instr.shape = .alu (aluSel f) .imm8 ∧
    (decode (0b00#2 ++ f ++ 0b100#3) b1).instr.shape = .inc (rSel f).operand ∧
    (decode (0b00#2 ++ f ++ 0b101#3) b1).instr.shape = .dec (rSel f).operand ∧
    (decode (0b00#2 ++ f ++ 0b110#3) b1).instr.shape = .ld (rSel f).operand .imm8 ∧
    (decode 0xCB (0b00000#5 ++ g)).instr.shape = .rlc (rSel g).operand

/-- For all bytes, the reported length is 1 plus 1 for the CB page plus 1 for an immediate operand; no instruction has
both; it is 2 exactly when byte 0 is 0xCB, 00ddd110 or 11ooo110, and 1 otherwise. A step of a running core that
gives a next state advances pc by it, modulo 65536. (R95) -/
def Obligations.LengthRule : Prop :=
  (∀ b0 b1 : Byte,
    (decode b0 b1).len =
      1 + (if (decode b0 b1).instr.shape.onCBPage then 1 else 0) + (if (decode b0 b1).instr.shape.hasImm8 then 1 else 0) ∧
    ¬ ((decode b0 b1).instr.shape.onCBPage = true ∧ (decode b0 b1).instr.shape.hasImm8 = true) ∧
    (decode b0 b1).len = (if b0 = 0xCB ∨ b0 &&& 0xC7 = 0x06 ∨ b0 &&& 0xC7 = 0xC6 then 2 else 1)) ∧
  ∀ s t : State, s.halted = false → step s = .next t →
    t.pc.toNat = (s.pc.toNat + (decode (s.readByte s.pc) (s.readByte (nextAddr s.pc))).len) % 65536

/-- A base opcode decodes to the unknown instruction of length 1 that holds it exactly when it is one of the 90 of R100;
a CB-page opcode decodes to the unknown CB instruction of length 2 exactly when it is 0x08 or more; there are 90 and
248 of them, and R90 counts 165 and 8 mapped ones. (R90, R98, R99, R100) -/
def Obligations.UnmappedEncodingsDecodeAsUnknown : Prop :=
  (∀ b0 b1 : Byte, b0 ∈ unmappedOpcodes ↔ decode b0 b1 = ⟨.unknown b0, 1⟩) ∧
  (∀ b1 : Byte, 8 ≤ b1.toNat ↔ decode 0xCB b1 = ⟨.unknownCB b1, 2⟩) ∧
  (∀ b0 b1 : Byte, ¬ (b0 ∈ unmappedOpcodes) → b0 ≠ 0xCB → ∀ op ext, (decode b0 b1).instr.shape ≠ .unknown op ext) ∧
  (∀ b1 : Byte, b1.toNat < 8 → ∀ op ext, (decode 0xCB b1).instr.shape ≠ .unknown op ext) ∧
  unmappedOpcodes.Nodup ∧ unmappedOpcodes.length = 90 ∧ 256 - 1 - unmappedOpcodes.length = 165

/-- The destination of every instruction is never Immediate8, and executing any instruction in any state never raises
InvalidOperand. (R102) -/
def Obligations.NoInstructionWritesTheImmediate : Prop :=
  (∀ (i : Instr) (x : Operand), destOperand i.shape = some x → x ≠ .imm8) ∧
  ∀ (i : Instr) (s : State) (a : Word), exec i s ≠ .fault (.invalidOperand a)

/-- Every instruction that is not an unmapped encoding has a text, for every value of its immediate; that line assembles
to the bytes the encoder gives; an unmapped encoding has no text. (R103, R104) -/
def Obligations.AssemblerInvertsText : Prop :=
  ∀ (i : Instr) (d8 : Byte),
    (∀ line, i.shape.text d8 = some line → assemble line = some (encode i d8)) ∧
    (i.shape.text d8 = none ↔ ∃ op ext, i.shape = .unknown op ext)

/-- For every state, each pair reads as its first register times 256 plus its second; the low byte of AF has Z, N, H and
C in bits 7 to 4 and 0 in bits 3 to 0. (R22, R24, R25) -/
def Obligations.PairReadsHighByteFirst : Prop :=
  ∀ s : State,
    (s.pair .bc).toNat = (s.reg .b).toNat * 256 + (s.reg .c).toNat ∧
    (s.pair .de).toNat = (s.reg .d).toNat * 256 + (s.reg .e).toNat ∧
    (s.pair .hl).toNat = (s.reg .h).toNat * 256 + (s.reg .l).toNat ∧
    (s.pair .af).toNat = (s.reg .a).toNat * 256 + s.regs.flags.c.toNat * 16 + s.regs.flags.h.toNat * 32 +
      s.regs.flags.n.toNat * 64 + s.regs.flags.z.toNat * 128

/-- Writing v to BC, DE or HL writes v[15:8] to the first register and v[7:0] to the second and the pair reads back v;
writing AF writes A and the four flags from bits 7 to 4, and AF reads back v & 0xFFF0. Every other register, the
flags (but for AF), pc, the run state and memory are unchanged. (R23, R24) -/
def Obligations.PairWriteThenRead : Prop :=
  ∀ (s : State) (v : Word),
    ((s.setPair .bc v).reg .b = v.extractLsb' 8 8 ∧ (s.setPair .bc v).reg .c = v.extractLsb' 0 8) ∧
    ((s.setPair .de v).reg .d = v.extractLsb' 8 8 ∧ (s.setPair .de v).reg .e = v.extractLsb' 0 8) ∧
    ((s.setPair .hl v).reg .h = v.extractLsb' 8 8 ∧ (s.setPair .hl v).reg .l = v.extractLsb' 0 8) ∧
    ((s.setPair .af v).reg .a = v.extractLsb' 8 8 ∧
      (s.setPair .af v).regs.flags = ⟨v.getLsbD 7, v.getLsbD 6, v.getLsbD 5, v.getLsbD 4⟩) ∧
    (s.setPair .bc v).pair .bc = v ∧ (s.setPair .de v).pair .de = v ∧ (s.setPair .hl v).pair .hl = v ∧
    (s.setPair .af v).pair .af = v &&& 0xFFF0 ∧
    (∀ r, r ≠ .b → r ≠ .c → (s.setPair .bc v).reg r = s.reg r) ∧
    (∀ r, r ≠ .d → r ≠ .e → (s.setPair .de v).reg r = s.reg r) ∧
    (∀ r, r ≠ .h → r ≠ .l → (s.setPair .hl v).reg r = s.reg r) ∧
    (∀ r, r ≠ .a → (s.setPair .af v).reg r = s.reg r) ∧
    (∀ p, p ≠ .af → (s.setPair p v).regs.flags = s.regs.flags) ∧
    ∀ p, (s.setPair p v).pc = s.pc ∧ (s.setPair p v).halted = s.halted ∧
      (s.setPair p v).haltReason = s.haltReason ∧ (s.setPair p v).mem = s.mem

/-- In every state whose memory is in canonical form (the invariant StepKeepsInvariant keeps), after a byte is written
at an address it reads as the written value, every other address reads as before, and nothing but memory changes.
(R62) -/
def Obligations.MemWriteSetsOneByte : Prop :=
  ∀ (s : State) (a : Word) (v : Byte), s.mem.wf = true →
    (s.writeByte a v).readByte a = v ∧
    (∀ b, b ≠ a → (s.writeByte a v).readByte b = s.readByte b) ∧
    (s.writeByte a v).regs = s.regs ∧ (s.writeByte a v).pc = s.pc ∧ (s.writeByte a v).halted = s.halted ∧
    (s.writeByte a v).haltReason = s.haltReason ∧ (s.writeByte a v).unknownPolicy = s.unknownPolicy

/-- Register(r) reads x[r]; Immediate8 reads the byte at (pc + 1) mod 65536, which at pc = 0xFFFF is the byte at 0x0000;
IndirectViaPair(p) reads the byte at the address in the pair. (R130, R133) -/
def Obligations.OperandReadForms : Prop :=
  ∀ s : State,
    (∀ r, opndRead (.reg r) s = s.reg r) ∧
    opndRead .imm8 s = s.readByte (BitVec.ofNat 16 ((s.pc.toNat + 1) % 65536)) ∧
    (s.pc = 0xFFFF → opndRead .imm8 s = s.readByte 0x0000) ∧
    opndRead (.ind .bc) s = s.readByte (s.pair .bc) ∧
    opndRead (.ind .de) s = s.readByte (s.pair .de) ∧
    opndRead (.ind .hl) s = s.readByte (s.pair .hl)

/-- Writing Register(r) writes x[r]; writing IndirectViaPair(p) writes the byte at the address in the pair; writing
Immediate8 raises InvalidOperand with the pc, whose code is 2, and gives no next state. (R131, R300, R301) -/
def Obligations.OperandWriteForms : Prop :=
  ∀ (s : State) (v : Byte),
    (∀ r, opndWrite (.reg r) v s = .next (s.setReg r v)) ∧
    opndWrite (.ind .bc) v s = .next (s.writeByte (s.pair .bc) v) ∧
    opndWrite (.ind .de) v s = .next (s.writeByte (s.pair .de) v) ∧
    opndWrite (.ind .hl) v s = .next (s.writeByte (s.pair .hl) v) ∧
    opndWrite .imm8 v s = .fault (.invalidOperand s.pc) ∧ (Fault.invalidOperand s.pc).code = 2

/-- In every state with canonical memory, writing a value through Register or IndirectViaPair gives a next state in
which the same operand source reads as that value. (R130, R131, R134) -/
def Obligations.OperandWriteThenRead : Prop :=
  ∀ (s : State) (x : Operand) (v : Byte), s.mem.wf = true → x ≠ .imm8 →
    ∃ t, opndWrite x v s = .next t ∧ opndRead x t = v

/-- With canonical memory, a load that fits writes bytes[i] at offset + i, leaves every other address as it was, and
leaves the registers and flags, pc, halted, halt_reason and the policy unchanged; a load that would pass 0xFFFF is
refused. That the load keeps the canonical form is about the model's own representation of memory (log entry 8, a
DESIGN CHOICE), not a rule of the spec. (R77, 92_eei_decisions.md D20, log entry 8, log entry 9) -/
def Obligations.BulkLoadWritesItsBytes : Prop :=
  ∀ (offset : Nat) (bytes : List Byte) (s : State), s.mem.wf = true →
    (offset + bytes.length ≤ 65536 →
      ∃ t, load offset bytes s = .next t ∧ t.mem.wf = true ∧
        (∀ (k : Nat) (hk : k < bytes.length), Memory.read t.mem (offset + k) = bytes[k]) ∧
        (∀ a, (a < offset ∨ offset + bytes.length ≤ a) → Memory.read t.mem a = Memory.read s.mem a) ∧
        t.regs = s.regs ∧ t.pc = s.pc ∧ t.halted = s.halted ∧ t.haltReason = s.haltReason ∧
        t.unknownPolicy = s.unknownPolicy) ∧
    (65536 < offset + bytes.length → load offset bytes s = .refused .loadPastEnd)

/-- Every form of ADD (r, (HL), d8) completes in every state: A becomes (a + v) mod 256, Z is set when that is 0, N is
0, H is set when the low nibbles sum past 15, C when a + v passes 255. (R153) -/
def Obligations.AddWritesSumAndFlags : Prop :=
  ∀ (i : Instr) (src : Operand) (s : State), i.shape = .alu .add src →
    ∃ t, exec i s = .next t ∧
      (t.reg .a).toNat = ((s.reg .a).toNat + (opndRead src s).toNat) % 256 ∧
      t.regs.flags.z = decide (((s.reg .a).toNat + (opndRead src s).toNat) % 256 = 0) ∧ t.regs.flags.n = false ∧
      t.regs.flags.h = decide ((s.reg .a).toNat % 16 + (opndRead src s).toNat % 16 > 15) ∧
      t.regs.flags.c = decide ((s.reg .a).toNat + (opndRead src s).toNat > 255)

/-- Every form of ADC completes in every state: with cin the old F.C, A becomes (a + v + cin) mod 256, Z is set when
that is 0, N is 0, H is set when the low nibbles and cin sum past 15, C when a + v + cin passes 255. (R157) -/
def Obligations.AdcWritesSumWithCarryAndFlags : Prop :=
  ∀ (i : Instr) (src : Operand) (s : State), i.shape = .alu .adc src →
    ∃ t, exec i s = .next t ∧
      (t.reg .a).toNat = ((s.reg .a).toNat + (opndRead src s).toNat + s.regs.flags.c.toNat) % 256 ∧
      t.regs.flags.z = decide (((s.reg .a).toNat + (opndRead src s).toNat + s.regs.flags.c.toNat) % 256 = 0) ∧ t.regs.flags.n = false ∧
      t.regs.flags.h = decide ((s.reg .a).toNat % 16 + (opndRead src s).toNat % 16 + s.regs.flags.c.toNat > 15) ∧
      t.regs.flags.c = decide ((s.reg .a).toNat + (opndRead src s).toNat + s.regs.flags.c.toNat > 255)

/-- Every form of SUB completes in every state: A becomes (a - v) mod 256, Z is set when that is 0, N is 1, H is set
when the low nibble of a is below that of v (a comparison, no wrapped difference), C when v > a. (R161) -/
def Obligations.SubWritesDifferenceAndFlags : Prop :=
  ∀ (i : Instr) (src : Operand) (s : State), i.shape = .alu .sub src →
    ∃ t, exec i s = .next t ∧
      ((t.reg .a).toNat : Int) = (((s.reg .a).toNat : Int) - (opndRead src s).toNat) % 256 ∧
      t.regs.flags.z = decide ((((s.reg .a).toNat : Int) - (opndRead src s).toNat) % 256 = 0) ∧ t.regs.flags.n = true ∧
      t.regs.flags.h = decide ((s.reg .a).toNat % 16 < (opndRead src s).toNat % 16) ∧
      t.regs.flags.c = decide ((opndRead src s).toNat > (s.reg .a).toNat)

/-- Every form of SBC completes in every state: with cin the old F.C, A becomes (a - v - cin) mod 256, Z is set when
that is 0, N is 1, H is set when the low nibble of a is below that of v plus cin, C when v + cin > a. (R165) -/
def Obligations.SbcWritesDifferenceWithBorrowAndFlags : Prop :=
  ∀ (i : Instr) (src : Operand) (s : State), i.shape = .alu .sbc src →
    ∃ t, exec i s = .next t ∧
      ((t.reg .a).toNat : Int) = (((s.reg .a).toNat : Int) - (opndRead src s).toNat - s.regs.flags.c.toNat) % 256 ∧
      t.regs.flags.z = decide ((((s.reg .a).toNat : Int) - (opndRead src s).toNat - s.regs.flags.c.toNat) % 256 = 0) ∧ t.regs.flags.n = true ∧
      t.regs.flags.h = decide ((s.reg .a).toNat % 16 < (opndRead src s).toNat % 16 + s.regs.flags.c.toNat) ∧
      t.regs.flags.c = decide ((opndRead src s).toNat + s.regs.flags.c.toNat > (s.reg .a).toNat)

/-- Every form of CP completes in every state: A keeps its value, Z is set when (a - v) mod 256 is 0, N is 1, H is set
when the low nibble of a is below that of v, C when v > a. (R169) -/
def Obligations.CompareKeepsAAndWritesFlags : Prop :=
  ∀ (i : Instr) (src : Operand) (s : State), i.shape = .alu .cp src →
    ∃ t, exec i s = .next t ∧
      t.reg .a = s.reg .a ∧
      t.regs.flags.z = decide ((((s.reg .a).toNat : Int) - (opndRead src s).toNat) % 256 = 0) ∧ t.regs.flags.n = true ∧
      t.regs.flags.h = decide ((s.reg .a).toNat % 16 < (opndRead src s).toNat % 16) ∧
      t.regs.flags.c = decide ((opndRead src s).toNat > (s.reg .a).toNat)

/-- Every form of AND completes in every state: every bit of A becomes the AND of that bit of the old A and of the
operand, Z is set when the result is 0, N is 0, H is 1, C is 0. (R173) -/
def Obligations.AndWritesConjunctionAndFlags : Prop :=
  ∀ (i : Instr) (src : Operand) (s : State), i.shape = .alu .and src →
    ∃ t, exec i s = .next t ∧
      (∀ k, (t.reg .a).getLsbD k = ((s.reg .a).getLsbD k && (opndRead src s).getLsbD k)) ∧
      t.regs.flags = ⟨decide (t.reg .a = 0), false, true, false⟩

/-- Every form of OR completes in every state: every bit of A becomes the OR of that bit of the old A and of the
operand, Z is set when the result is 0, N is 0, H is 0, C is 0. (R177) -/
def Obligations.OrWritesDisjunctionAndFlags : Prop :=
  ∀ (i : Instr) (src : Operand) (s : State), i.shape = .alu .or src →
    ∃ t, exec i s = .next t ∧
      (∀ k, (t.reg .a).getLsbD k = ((s.reg .a).getLsbD k || (opndRead src s).getLsbD k)) ∧
      t.regs.flags = ⟨decide (t.reg .a = 0), false, false, false⟩

/-- Every form of XOR completes in every state: every bit of A becomes the XOR of that bit of the old A and of the
operand, Z is set when the result is 0, N is 0, H is 0, C is 0. (R181) -/
def Obligations.XorWritesExclusiveOrAndFlags : Prop :=
  ∀ (i : Instr) (src : Operand) (s : State), i.shape = .alu .xor src →
    ∃ t, exec i s = .next t ∧
      (∀ k, (t.reg .a).getLsbD k = ((s.reg .a).getLsbD k ^^ (opndRead src s).getLsbD k)) ∧
      t.regs.flags = ⟨decide (t.reg .a = 0), false, false, false⟩

/-- Every form of INC (r, (HL)) completes in every state with canonical memory: the operand, read back where it was (for
(HL) at the old HL), is (v + 1) mod 256; Z is set when that is 0, N is 0, H is set when the low nibble of v is 15, C
keeps its value. (R201) -/
def Obligations.IncWritesOperandPlusOne : Prop :=
  ∀ (i : Instr) (x : Operand) (s : State), i.shape = .inc x → s.mem.wf = true →
    ∃ t, exec i s = .next t ∧
      let v := (opndRead x s).toNat
      let res := match x with
        | .reg r => (t.reg r).toNat
        | .imm8 => 0
        | .ind p => (t.readByte (s.pair p.toPair)).toNat
      res = (v + 1) % 256 ∧
      t.regs.flags = ⟨decide ((v + 1) % 256 = 0), false, decide (v % 16 = 15), s.regs.flags.c⟩

/-- Every form of DEC completes in every state with canonical memory: the operand, read back where it was, is (v - 1)
mod 256; Z is set when that is 0, N is 1, H is set when the low nibble of v is 0, C keeps its value. (R204) -/
def Obligations.DecWritesOperandMinusOne : Prop :=
  ∀ (i : Instr) (x : Operand) (s : State), i.shape = .dec x → s.mem.wf = true →
    ∃ t, exec i s = .next t ∧
      let v := (opndRead x s).toNat
      let res := match x with
        | .reg r => (t.reg r).toNat
        | .imm8 => 0
        | .ind p => (t.readByte (s.pair p.toPair)).toNat
      (res : Int) = ((v : Int) - 1) % 256 ∧
      t.regs.flags = ⟨decide (((v : Int) - 1) % 256 = 0), true, decide (v % 16 = 0), s.regs.flags.c⟩

/-- Every form of RLC completes in every state with canonical memory: the operand, read back where it was, is 2v mod 256
plus the old bit 7; Z is set when that is 0, N and H are 0, C is the old bit 7. The old F.C plays no part. (R250) -/
def Obligations.RlcRotatesOperandLeft : Prop :=
  ∀ (i : Instr) (x : Operand) (s : State), i.shape = .rlc x → s.mem.wf = true →
    ∃ t, exec i s = .next t ∧
      let v := (opndRead x s).toNat
      let res := match x with
        | .reg r => (t.reg r).toNat
        | .imm8 => 0
        | .ind p => (t.readByte (s.pair p.toPair)).toNat
      res = (2 * v) % 256 + v / 128 ∧
      t.regs.flags = ⟨decide ((2 * v) % 256 + v / 128 = 0), false, false, decide (v / 128 = 1)⟩

/-- Every load has a destination that is not Immediate8 and completes in every state: the flags are unchanged; a
register destination holds the value the source had; a memory destination, with canonical memory, reads that value
at the address its pair had. (R220) -/
def Obligations.LoadMovesSourceToDestination : Prop :=
  ∀ (i : Instr) (dst src : Operand) (s : State), i.shape = .ld dst src →
    dst ≠ .imm8 ∧
    ∃ t, exec i s = .next t ∧ t.regs.flags = s.regs.flags ∧
      (∀ r, dst = .reg r → t.reg r = opndRead src s) ∧
      (∀ p, dst = .ind p → s.mem.wf = true → t.readByte (s.pair p.toPair) = opndRead src s)

/-- Executing NOP gives the state it was given, in every state. 0x00 decodes to NOP of length 1. A step of a running
core whose byte at pc reads as 0x00 is that state advanced by 1; at pc = 0xFFFF it halts with pc = 0x0000 and
halt_reason PcOverflow, and nothing else changes. (R270) -/
def Obligations.NopDoesNothingThenStepAdvancesPc : Prop :=
  (∀ s : State, exec .nop s = .next s) ∧
  (∀ b1 : Byte, decode 0b00000000 b1 = ⟨.nop, 1⟩) ∧
  (∀ s : State, s.halted = false → s.readByte s.pc = 0x00 → step s = .next (s.advance 1)) ∧
  (∀ s : State, s.halted = false → s.readByte s.pc = 0x00 → s.pc = 0xFFFF →
    step s = .next { s with pc := 0x0000, halted := true, haltReason := .pcOverflow })

/-- Executing HALT sets halted and halt_reason HaltOpcode and changes nothing else, in every state. 0x76 decodes to HALT
of length 1. A step of a running core with 0x76 at pc gives that state with pc + 1 mod 65536 and the reason still
HaltOpcode; every later step is a no-op. (R272, R30) -/
def Obligations.HaltEntersHaltedWithHaltOpcode : Prop :=
  (∀ s : State, exec .halt s = .next { s with halted := true, haltReason := .haltOpcode }) ∧
  (∀ b1 : Byte, decode 0b01110110 b1 = ⟨.halt, 1⟩) ∧
  (∀ s : State, s.halted = false → s.readByte s.pc = 0x76 →
    ∃ t, t = { s with pc := BitVec.ofNat 16 ((s.pc.toNat + 1) % 65536), halted := true, haltReason := .haltOpcode } ∧
      step s = .next t ∧ step t = .next t)

/-- In every running state with the strict policy whose bytes at pc decode as unknown: the step raises UnknownOpcode
with the opcode, the extended opcode and pc, and has code 1; a run that takes this step ends faulted with the state
before it. (R302) -/
def Obligations.UnknownOpcodeStrictRaises : Prop :=
  ∀ (s : State) (op : Byte) (ext : Option Byte), s.halted = false → s.unknownPolicy = .strict →
    (decode (s.readByte s.pc) (s.readByte (nextAddr s.pc))).instr.shape = .unknown op ext →
    step s = .fault (.unknownOpcode op ext s.pc) ∧ (Fault.unknownOpcode op ext s.pc).code = 1 ∧
    op = s.readByte s.pc ∧ ext = (if op = 0xCB then some (s.readByte (nextAddr s.pc)) else none) ∧
    ∀ es, run (.step :: es) s = .faulted (.unknownOpcode op ext s.pc) s

/-- Executing an unmapped encoding under the permissive policy gives the state it was given. A step of a running core at
such bytes is pc advanced by 1 for a base opcode and by 2 for a CB-page one, with PcOverflow when that passes 0xFFFF
and no register, flag or byte changed. (R303) -/
def Obligations.UnknownOpcodePermissiveSkips : Prop :=
  (∀ (i : Instr) (op : Byte) (ext : Option Byte) (s : State), i.shape = .unknown op ext → s.unknownPolicy = .permissive →
    exec i s = .next s) ∧
  ∀ (s : State) (op : Byte) (ext : Option Byte), s.halted = false → s.unknownPolicy = .permissive →
    (decode (s.readByte s.pc) (s.readByte (nextAddr s.pc))).instr.shape = .unknown op ext →
    ∃ t, step s = .next t ∧ t.regs = s.regs ∧ (∀ a, t.readByte a = s.readByte a) ∧
      t.pc.toNat = (s.pc.toNat + (if ext = none then 1 else 2)) % 65536 ∧
      t.halted = decide (s.pc.toNat + (if ext = none then 1 else 2) > 65535) ∧
      (t.halted = true → t.haltReason = .pcOverflow) ∧ (t.halted = false → t.haltReason = s.haltReason)

/-- When any form of the eight accumulator operations gives a next state: every register but A is unchanged, A too for
CP; every address reads as before; pc, halted, halt_reason and the policy are unchanged. (R150, R154, R155, R156,
R170, R26, R124) -/
def Obligations.AccumulatorFrame : Prop :=
  ∀ (i : Instr) (op : AluOp) (src : Operand) (s t : State), i.shape = .alu op src → exec i s = .next t →
    (∀ r, r ≠ .a → t.reg r = s.reg r) ∧ (op = .cp → t.reg .a = s.reg .a) ∧
    (∀ a, t.readByte a = s.readByte a) ∧
    t.pc = s.pc ∧ t.halted = s.halted ∧ t.haltReason = s.haltReason ∧ t.unknownPolicy = s.unknownPolicy

/-- When INC r, DEC r, RLC r or a load to r gives a next state: every other register is unchanged; INC and DEC leave C,
a load leaves all flags; every address reads as before; pc, halted, halt_reason and the policy are unchanged. (R202,
R205, R221, R222, R224, R226, R227, R251, R26) -/
def Obligations.RegisterDestinationFrame : Prop :=
  ∀ (i : Instr) (r : Reg) (s t : State), exec i s = .next t →
    (i.shape = .inc (.reg r) ∨ i.shape = .dec (.reg r) ∨ i.shape = .rlc (.reg r) ∨ ∃ src, i.shape = .ld (.reg r) src) →
    (∀ q, q ≠ r → t.reg q = s.reg q) ∧
    (i.shape = .inc (.reg r) ∨ i.shape = .dec (.reg r) → t.regs.flags.c = s.regs.flags.c) ∧
    ((∃ src, i.shape = .ld (.reg r) src) → t.regs.flags = s.regs.flags) ∧
    (∀ a, t.readByte a = s.readByte a) ∧
    t.pc = s.pc ∧ t.halted = s.halted ∧ t.haltReason = s.haltReason ∧ t.unknownPolicy = s.unknownPolicy

/-- When INC (HL), DEC (HL), RLC (HL) or a load to (BC), (DE) or (HL) gives a next state: every register is unchanged;
INC and DEC leave C, a load leaves all flags; every address but the one the pair held reads as before; pc, halted,
halt_reason and the policy are unchanged. (R203, R206, R223, R225, R228, R229, R252, R26, R62) -/
def Obligations.MemoryDestinationFrame : Prop :=
  ∀ (i : Instr) (p : AddrPair) (s t : State), exec i s = .next t →
    (i.shape = .inc (.ind p) ∨ i.shape = .dec (.ind p) ∨ i.shape = .rlc (.ind p) ∨ ∃ src, i.shape = .ld (.ind p) src) →
    (∀ q, t.reg q = s.reg q) ∧
    (i.shape = .inc (.ind p) ∨ i.shape = .dec (.ind p) → t.regs.flags.c = s.regs.flags.c) ∧
    ((∃ src, i.shape = .ld (.ind p) src) → t.regs.flags = s.regs.flags) ∧
    (∀ a, a ≠ s.pair p.toPair → t.readByte a = s.readByte a) ∧
    t.pc = s.pc ∧ t.halted = s.halted ∧ t.haltReason = s.haltReason ∧ t.unknownPolicy = s.unknownPolicy

/-- When NOP, HALT or an unmapped encoding gives a next state: every register and flag is unchanged, every address reads
as before, pc and the policy are unchanged, and but for HALT so are halted and halt_reason. (R270, R272, R302, R303,
R26) -/
def Obligations.ControlFrame : Prop :=
  ∀ (i : Instr) (s t : State), exec i s = .next t →
    (i.shape = .nop ∨ i.shape = .halt ∨ ∃ op ext, i.shape = .unknown op ext) →
    (∀ q, t.reg q = s.reg q) ∧ t.regs.flags = s.regs.flags ∧ (∀ a, t.readByte a = s.readByte a) ∧
    t.pc = s.pc ∧ t.unknownPolicy = s.unknownPolicy ∧
    (i.shape ≠ .halt → t.halted = s.halted ∧ t.haltReason = s.haltReason)

/-- For every instruction that is not ADC or SBC, executing it with any other flags completes exactly when it did, with
the same registers, memory, pc and run state; and the flags it writes are the same too, but C for INC and DEC and
every flag for an instruction that writes none. (R27, R250) -/
def Obligations.FlagsFeedOnlyAdcAndSbc : Prop :=
  ∀ (i : Instr) (s t : State) (f : Flags),
    (∀ src, i.shape ≠ .alu .adc src ∧ i.shape ≠ .alu .sbc src) → exec i s = .next t →
    ∃ u, exec i (s.setFlags f) = .next u ∧ (∀ r, u.reg r = t.reg r) ∧ u.mem = t.mem ∧ u.pc = t.pc ∧
      u.halted = t.halted ∧ u.haltReason = t.haltReason ∧
      ((∃ op src, i.shape = .alu op src) ∨ (∃ x, i.shape = .rlc x) → u.regs.flags = t.regs.flags) ∧
      ((∃ x, i.shape = .inc x) ∨ (∃ x, i.shape = .dec x) →
        u.regs.flags = { t.regs.flags with c := f.c })

/-- In every running state, for the instruction and length that the bytes at pc and (pc + 1) mod 65536 decode to: when
executing it in that state gives a next state the step is that state with pc advanced by the length, and an error or
a refusal of it is the step's. In particular, when those bytes start with the encoding of a well-formed instruction,
it is that instruction and its length. (R120, R121, R122, R123, R124, R126) -/
def Obligations.StepRunsTheDecodedInstruction : Prop :=
  (∀ (s : State) (i : Instr) (len : Nat), s.halted = false →
    decode (s.readByte s.pc) (s.readByte (BitVec.ofNat 16 ((s.pc.toNat + 1) % 65536))) = ⟨i, len⟩ →
    (∀ t, exec i s = .next t → step s = .next (t.advance len)) ∧
    (∀ e, exec i s = .fault e → step s = .fault e) ∧
    (∀ e, exec i s = .refused e → step s = .refused e)) ∧
  ∀ (s t : State) (i : Instr) (d8 : Byte), s.halted = false → i.WellFormed →
    [s.readByte s.pc, s.readByte (BitVec.ofNat 16 ((s.pc.toNat + 1) % 65536))].take i.len = encode i d8 →
    exec i s = .next t → step s = .next (t.advance i.len)

/-- In every halted state, whatever byte stands at pc and whatever the policy, the step gives that same state. (R126) -/
def Obligations.HaltedStepIsNoop : Prop :=
  ∀ s : State, s.halted = true → step s = .next s

/-- For every state and length: pc becomes (pc + len) mod 65536; a running core whose exact sum passes 0xFFFF halts with
PcOverflow; otherwise halted and halt_reason are unchanged, so a core HALT stopped keeps HaltOpcode; registers,
flags and memory are unchanged. (R125) -/
def Obligations.AdvanceWrapsAndHaltsAtTheTop : Prop :=
  ∀ (s : State) (len : Nat),
    (s.advance len).pc.toNat = (s.pc.toNat + len) % 65536 ∧
    (s.pc.toNat + len > 65535 ∧ s.halted = false →
      (s.advance len).halted = true ∧ (s.advance len).haltReason = .pcOverflow) ∧
    (¬ (s.pc.toNat + len > 65535 ∧ s.halted = false) →
      (s.advance len).halted = s.halted ∧ (s.advance len).haltReason = s.haltReason) ∧
    (s.advance len).regs = s.regs ∧ (s.advance len).mem = s.mem ∧
    (s.advance len).unknownPolicy = s.unknownPolicy

/-- For all states: if a step of a running core gives a next state, pc is the old pc plus the decoded length mod 65536;
the core is halted after it exactly when the instruction is HALT or the exact sum passes 0xFFFF; the reason is
HaltOpcode for HALT and PcOverflow otherwise. (R28, R29, R30, R125, R272, R274) -/
def Obligations.PcMovesOnlyByTheAdvance : Prop :=
  ∀ s t : State, s.halted = false → step s = .next t →
    t.pc.toNat = (s.pc.toNat + s.fetchDecode.len) % 65536 ∧
    (t.halted = true ↔ s.fetchDecode.instr = .halt ∨ s.pc.toNat + s.fetchDecode.len > 65535) ∧
    (t.halted = true → t.haltReason = if s.fetchDecode.instr = .halt then .haltOpcode else .pcOverflow) ∧
    (t.halted = false → t.haltReason = s.haltReason)

/-- For all states and every step that gives a next state: every address that is not the one the instruction at pc
stores to (the old pair of its (BC), (DE) or (HL) destination, none for any other form) reads as before; on a halted
core every address does. (R62, R66, R124, R132) -/
def Obligations.StepStoresOnlyAtItsDestination : Prop :=
  ∀ s t : State, step s = .next t →
    (∀ a, instrStoreAddr s.fetchDecode.instr s ≠ some a → t.readByte a = s.readByte a) ∧
    (s.halted = true → ∀ a, t.readByte a = s.readByte a)

/-- For all states, a step raises an error exactly when the core is running, the policy is strict and the bytes at pc
decode as unknown, and the error is then UnknownOpcode with those bytes and pc; a step is never refused. So every
step of a permissive core completes. (R127, R300, R301, R302, R304, R305, R307) -/
def Obligations.StepErrorsAreExactlyUnknownOpcodeInStrictMode : Prop :=
  ∀ s : State,
    (∀ e, step s = .fault e ↔
      s.halted = false ∧ s.unknownPolicy = .strict ∧
      ∃ op ext, s.fetchDecode.instr.shape = .unknown op ext ∧ e = .unknownOpcode op ext s.pc) ∧
    (∀ e, step s ≠ .refused e) ∧
    (s.unknownPolicy = .permissive → ∃ t, step s = .next t)

/-- For every state that meets the invariant (memory in canonical form, every listed address inside the 65536 bytes, and
halt_reason None exactly when halted is false), every step that gives a next state gives one that meets it. The
canonical form is the model's choice (log entry 8). (R30, R31, R60, R125, R272, log entry 8, log entry 13) -/
def Obligations.StepKeepsInvariant : Prop :=
  ∀ s t : State, s.Inv → step s = .next t → t.Inv

/-- For every state and every host write between steps: halted, halt_reason and the policy are unchanged, and the
invariant is kept. Its half on halt_reason is R30, kept as a relation of two fields (log entry 13); its half on the
canonical form of memory is the model's choice (log entry 8, a DESIGN CHOICE). Each write has its effect: the
register, pair, flag, pc or byte reads as written (a byte with canonical memory). (R141, R346, R29, R30, log entry
8, log entry 10, log entry 13) -/
def Obligations.HostWritesKeepInvariantAndRunState : Prop :=
  ∀ (x : HostAction) (s : State),
    (x.apply s).halted = s.halted ∧ (x.apply s).haltReason = s.haltReason ∧
    (x.apply s).unknownPolicy = s.unknownPolicy ∧ (s.Inv → (x.apply s).Inv) ∧
    (∀ r v, x = .setReg r v → (x.apply s).reg r = v) ∧
    (∀ a, x = .setPc a → (x.apply s).pc = a) ∧
    (∀ a v, x = .setByte a v → s.mem.wf = true → (x.apply s).readByte a = v) ∧
    (∀ p v, x = .setPair p v → (x.apply s).pair p = if p = .af then v &&& 0xFFF0 else v) ∧
    (∀ b, x = .setFlag .z b → (x.apply s).regs.flags = { s.regs.flags with z := b }) ∧
    (∀ b, x = .setFlag .n b → (x.apply s).regs.flags = { s.regs.flags with n := b }) ∧
    (∀ b, x = .setFlag .h b → (x.apply s).regs.flags = { s.regs.flags with h := b }) ∧
    (∀ b, x = .setFlag .c b → (x.apply s).regs.flags = { s.regs.flags with c := b })

/-- For every state and every list of events, the state the run ends in has the policy the run began with. (R33, R346,
log entry 2) -/
def Obligations.PolicyIsFixedForTheRun : Prop :=
  ∀ (es : List Event) (s : State),
    match run es s with
    | .final t => t.unknownPolicy = s.unknownPolicy
    | .unfinished t => t.unknownPolicy = s.unknownPolicy
    | .faulted _ t => t.unknownPolicy = s.unknownPolicy
    | .refused _ _ => False

/-- From every halted state, every run of steps and host writes ends final, with the same halt_reason; a run of steps
alone ends in the very same state. (R29, R126, R142, R273, R316) -/
def Obligations.HaltedIsTerminal : Prop :=
  (∀ (es : List Event) (s : State), s.halted = true →
    ∃ t, run es s = .final t ∧ t.halted = true ∧ t.haltReason = s.haltReason) ∧
  ∀ (n : Nat) (s : State), s.halted = true → run (List.replicate n .step) s = .final s

/-- For every run that ends faulted, the state it ends in is not halted, has the strict policy, is fetched at bytes that
decode as unknown, and a step there raises the same error: nothing of the failing step happened. (R127, R142, R308,
log entry 11) -/
def Obligations.FaultedRunKeepsTheStateBeforeTheFault : Prop :=
  ∀ (es : List Event) (s t : State) (e : Fault), run es s = .faulted e t →
    t.halted = false ∧ t.unknownPolicy = .strict ∧ step t = .fault e ∧
    ∃ op ext, t.fetchDecode.instr.shape = .unknown op ext ∧ e = .unknownOpcode op ext t.pc

/-- From every state, a run of n steps with no host write, where pc + n is at least 65536 (from pc = 0, 65536 steps),
ends final or faulted; under the permissive policy it ends final. The core cannot loop. (R125, R142, R274) -/
def Obligations.RunsWithoutHostEndWithin65536Steps : Prop :=
  ∀ (n : Nat) (s : State), Config.memorySize ≤ s.pc.toNat + n →
    ((∃ t, run (List.replicate n .step) s = .final t) ∨ (∃ e t, run (List.replicate n .step) s = .faulted e t)) ∧
    (s.unknownPolicy = .permissive → ∃ t, run (List.replicate n .step) s = .final t)

/-- In every running state with canonical memory whose instruction at pc is a load to memory and whose pair holds the
address after the instruction: the step completes, the stored byte is what the next step fetches as its opcode, and
the step itself ran the instruction as memory was before the store. (R66, R74, R350, R351) -/
def Obligations.StoreIsSeenByTheNextFetch : Prop :=
  ∀ (s : State) (p : AddrPair) (src : Operand), s.halted = false → s.mem.wf = true →
    s.fetchDecode.instr.shape = .ld (.ind p) src →
    s.pair p.toPair = BitVec.ofNat 16 ((s.pc.toNat + s.fetchDecode.len) % 65536) →
    ∃ t, step s = .next t ∧ t.readByte t.pc = opndRead src s ∧ t.pc = s.pair p.toPair ∧
      t.fetchDecode = decode (opndRead src s) (t.readByte (nextAddr t.pc))

/-- In every running state with canonical memory whose instruction at pc is INC (HL), DEC (HL) or RLC (HL), wherever HL
points, the step completes and the byte at HL is the new value of the byte that was there; with HL = pc, INC (HL)
leaves 0x35 and DEC (HL) leaves 0x34 in its own place, and with HL = pc + 1 RLC (HL) leaves 0x0C there. (R66, R74,
R203, R206, R252) -/
def Obligations.InstructionMayOverwriteItself : Prop :=
  ∀ s : State, s.halted = false → s.mem.wf = true →
    (s.fetchDecode.instr = .incIndHL →
      ∃ t, step s = .next t ∧ (t.readByte (s.pair .hl)).toNat = ((s.readByte (s.pair .hl)).toNat + 1) % 256 ∧
        (s.pair .hl = s.pc → t.readByte s.pc = 0x35)) ∧
    (s.fetchDecode.instr = .decIndHL →
      ∃ t, step s = .next t ∧ (t.readByte (s.pair .hl)).toNat = ((s.readByte (s.pair .hl)).toNat + 255) % 256 ∧
        (s.pair .hl = s.pc → t.readByte s.pc = 0x34)) ∧
    (s.fetchDecode.instr = .rlcIndHL →
      ∃ t, step s = .next t ∧ t.readByte (s.pair .hl) = (s.readByte (s.pair .hl)).rotateLeft 1 ∧
        (s.pair .hl = BitVec.ofNat 16 ((s.pc.toNat + 1) % 65536) → t.readByte (s.pair .hl) = 0x0C))

/-- For all init_regs, policies and images of at most 65536 bytes, boot completes: registers and flags are init_regs, pc
is 0, halted is false, halt_reason None, the policy the one given, the byte at i is image[i], every later byte is 0.
A longer image is refused. The invariant holds too: its half on halt_reason is R30 (as a relation of two fields, log
entry 13), its half on the canonical form of memory is the model's choice (log entry 8, a DESIGN CHOICE). (R30,
R341, R342, R343, R344, R345, R346, R347, log entry 8, log entry 13) -/
def Obligations.BootLoadsTheImageAtZero : Prop :=
  ∀ (init : RegFile) (policy : UnknownPolicy) (image : List Byte),
    (image.length ≤ 65536 →
      ∃ s, boot init policy image = .next s ∧ s.regs = init ∧ s.pc = 0x0000 ∧ s.halted = false ∧
        s.haltReason = .none ∧ s.unknownPolicy = policy ∧ s.Inv ∧
        (∀ (k : Nat) (hk : k < image.length), s.readByte (BitVec.ofNat 16 k) = image[k]) ∧
        (∀ a : Word, image.length ≤ a.toNat → s.readByte a = 0x00)) ∧
    (65536 < image.length → boot init policy image = .refused .loadPastEnd)

/-- State.reset has pc 0x0000, halted false and halt_reason None, and every byte reads 0, as the spec gives them, and it
meets the invariant, whose half on halt_reason is R30 (log entry 13). The model's own choices (DESIGN CHOICE) are
the other half, the canonical form of memory (log entry 8), that every register and flag is 0 (log entry 1), and
that the policy is strict (log entry 2). (R30, R342, R343, R344, log entry 1, log entry 2, log entry 8, log entry
13) -/
def Obligations.ResetStateMeetsInvariant : Prop :=
  State.reset.Inv ∧ State.reset.pc = 0x0000 ∧ State.reset.halted = false ∧ State.reset.haltReason = .none ∧
  (∀ a : Word, State.reset.readByte a = 0x00) ∧
  (∀ r, State.reset.reg r = 0x00) ∧ State.reset.regs.flags = ⟨false, false, false, false⟩ ∧
  State.reset.unknownPolicy = .strict
end

