-- ==== Sys2Proof/Laws/Alu.lean ====
section
/-! SUPPORT. The narrowings the ALU functions use, as remainders. -/

namespace Sys2Proof.Machine

/-- `v & 0xF` is the remainder by 16. -/
theorem lowNibble_eq (v : Byte) : lowNibble v = v.toNat % 16 := by
  have h : ∀ v : Byte, lowNibble v = v.toNat % 16 := by decide
  exact h v

theorem byte_eq_zero_iff (v : Byte) : v = 0 ↔ v.toNat = 0 :=
  ⟨fun h => by rw [h]; rfl, fun h => BitVec.eq_of_toNat_eq h⟩

theorem wrap8_toNat (x : Nat) : (wrap8 x).toNat = x % 256 := by simp [wrap8]

theorem wrap8_eq_zero_iff (x : Nat) : wrap8 x = 0 ↔ x % 256 = 0 := by rw [byte_eq_zero_iff, wrap8_toNat]

theorem ofInt_toNat (x : Int) : ((BitVec.ofInt 8 x).toNat : Int) = x % 256 := by
  simp only [BitVec.toNat_ofInt]
  omega

theorem ofInt_eq_zero_iff (x : Int) : BitVec.ofInt 8 x = 0 ↔ x % 256 = 0 := by
  have h := ofInt_toNat x
  rw [byte_eq_zero_iff]
  omega

theorem wrap16_toNat (x : Nat) : (wrap16 x).toNat = x % 65536 := by simp [wrap16]

end Sys2Proof.Machine
end

