-- ==== Sys2Proof/Laws/Decode.lean ====
section
/-! SUPPORT. How decoding depends on its bytes: the CB page on the second byte alone, the base page on the first alone. A
fact about all base opcodes is then a question about 256 bytes. -/

namespace Sys2Proof

theorem decode_page (b1 : Byte) : decode 0xCB b1 = decodeCB b1 := rfl

theorem decode_base {b0 : Byte} (b1 : Byte) (h : b0 ≠ 0xCB) : decode b0 b1 = decodeBase b0 := if_neg h

/-- A decoded instruction is what R97's page for its first byte gives. -/
theorem decode_cases (b0 b1 : Byte) :
    (b0 = 0xCB ∧ decode b0 b1 = decodeCB b1) ∨ (b0 ≠ 0xCB ∧ decode b0 b1 = decodeBase b0) := by
  by_cases h : b0 = 0xCB
  · exact .inl ⟨h, h ▸ decode_page b1⟩
  · exact .inr ⟨h, decode_base b1 h⟩

end Sys2Proof
end

