-- ==== Sys2Proof/Laws/Memory.lean ====
section
/-! SUPPORT. The laws of memory: what a write leaves, and that every operation keeps the canonical form. -/

namespace Sys2Proof.Machine

/-- A write leaves every other address alone, in any list. -/
theorem Memory.read_write_other (m : Memory) {a b : Nat} (v : Byte) (h : b ≠ a) :
    Memory.read (Memory.write m a v) b = Memory.read m b := by
  induction m with
  | nil => by_cases hv : v = Config.unwrittenByte <;> simp [Memory.write, Memory.read, hv, Ne.symm h]
  | cons c m ih =>
    obtain ⟨k, x⟩ := c
    by_cases hlt : k < a
    · simp only [Memory.write, hlt, if_true, Memory.read, ih]
    · by_cases hk : k = a <;> by_cases hv : v = Config.unwrittenByte <;>
        simp [Memory.write, Memory.read, hk, hv, Ne.symm h, hlt]

/-- A canonical memory lists no address below its start. -/
theorem Memory.read_below {m : Memory} {lo a : Nat} (hm : Memory.wfFrom lo m = true) (h : a < lo) :
    Memory.read m a = Config.unwrittenByte := by
  induction m generalizing lo with
  | nil => rfl
  | cons c m ih =>
    obtain ⟨k, x⟩ := c
    simp only [Memory.wfFrom, Bool.and_eq_true, decide_eq_true_eq] at hm
    have hk : k ≠ a := by omega
    simp only [Memory.read, hk, if_false]
    exact ih hm.2 (by omega)

/-- A written byte reads back, in a canonical memory. -/
theorem Memory.read_write_same_from {m : Memory} {lo : Nat} (a : Nat) (v : Byte) (hm : Memory.wfFrom lo m = true) :
    Memory.read (Memory.write m a v) a = v := by
  induction m generalizing lo with
  | nil => by_cases hv : v = Config.unwrittenByte <;> simp [Memory.write, Memory.read, hv]
  | cons c m ih =>
    obtain ⟨k, x⟩ := c
    simp only [Memory.wfFrom, Bool.and_eq_true, decide_eq_true_eq] at hm
    by_cases hlt : k < a
    · have hk : k ≠ a := by omega
      simp only [Memory.write, hlt, if_true, Memory.read, hk, if_false]
      exact ih hm.2
    · by_cases hv : v = Config.unwrittenByte
      · by_cases hk : k = a
        · subst hk
          simp only [Memory.write, lt_irrefl, if_false, if_true, hv]
          exact Memory.read_below hm.2 (by omega)
        · simp only [Memory.write, hlt, if_false, hk, hv, if_true, Memory.read]
          exact Memory.read_below hm.2 (by omega)
      · by_cases hk : k = a <;> simp [Memory.write, Memory.read, hlt, hk, hv]

theorem Memory.read_write_same {m : Memory} (a : Nat) (v : Byte) (hm : m.wf = true) :
    Memory.read (Memory.write m a v) a = v := Memory.read_write_same_from a v hm

/-- A canonical memory is canonical from any lower start. -/
theorem Memory.wfFrom_mono {m : Memory} {lo lo' : Nat} (h : lo' ≤ lo) (hm : Memory.wfFrom lo m = true) :
    Memory.wfFrom lo' m = true := by
  cases m with
  | nil => rfl
  | cons c m =>
    obtain ⟨k, x⟩ := c
    simp only [Memory.wfFrom, Bool.and_eq_true, decide_eq_true_eq] at hm ⊢
    exact ⟨⟨⟨by omega, hm.1.1.2⟩, hm.1.2⟩, hm.2⟩

theorem Memory.wfFrom_write {m : Memory} {lo a : Nat} (v : Byte) (hm : Memory.wfFrom lo m = true) (hlo : lo ≤ a)
    (ha : a < Config.memorySize) : Memory.wfFrom lo (Memory.write m a v) = true := by
  induction m generalizing lo with
  | nil => by_cases hv : v = Config.unwrittenByte <;> simp [Memory.write, Memory.wfFrom, hv, hlo, ha]
  | cons c m ih =>
    obtain ⟨k, x⟩ := c
    have hm' := hm
    simp only [Memory.wfFrom, Bool.and_eq_true, decide_eq_true_eq] at hm'
    by_cases hlt : k < a
    · simp only [Memory.write, hlt, if_true, Memory.wfFrom, Bool.and_eq_true, decide_eq_true_eq]
      exact ⟨hm'.1, ih hm'.2 (by omega)⟩
    · by_cases hv : v = Config.unwrittenByte
      · by_cases hk : k = a
        · subst hk
          simp only [Memory.write, lt_irrefl, if_false, if_true, hv]
          exact Memory.wfFrom_mono (by omega) hm'.2
        · simp only [Memory.write, hlt, if_false, hk, hv, if_true]
          exact hm
      · by_cases hk : k = a
        · subst hk
          simp [Memory.write, hv, Memory.wfFrom, hlo, ha, hm'.2]
        · have : a < k := by omega
          simp [Memory.write, hlt, hk, hv, Memory.wfFrom, hlo, ha, hm'.1.1.2, hm'.1.2, hm'.2, this]

/-- A write keeps the canonical form. -/
theorem Memory.wf_write {m : Memory} {a : Nat} (v : Byte) (hm : m.wf = true) (ha : a < Config.memorySize) :
    (Memory.write m a v).wf = true := Memory.wfFrom_write v hm (Nat.zero_le _) ha

/-- A write through a 16-bit address keeps the canonical form. -/
theorem State.wf_writeByte {s : State} (a : Word) (v : Byte) (hm : s.mem.wf = true) : (s.writeByte a v).mem.wf = true :=
  Memory.wf_write v hm a.isLt

/-- A bulk write inside the address space keeps the canonical form. -/
theorem Memory.wf_writeAll {m : Memory} {a : Nat} (vs : List Byte) (hm : m.wf = true)
    (ha : a + vs.length ≤ Config.memorySize) : (Memory.writeAll m a vs).wf = true := by
  induction vs generalizing m a with
  | nil => exact hm
  | cons v vs ih =>
    simp only [List.length_cons] at ha
    exact ih (Memory.wf_write v hm (by omega)) (by omega)

theorem State.reset_mem_wf : State.reset.mem.wf = true := rfl

/-- The byte read after a byte is written. -/
theorem State.readByte_writeByte_same {s : State} (a : Word) (v : Byte) (hm : s.mem.wf = true) :
    (s.writeByte a v).readByte a = v := Memory.read_write_same a.toNat v hm

theorem State.readByte_writeByte_other (s : State) {a b : Word} (v : Byte) (h : b ≠ a) :
    (s.writeByte a v).readByte b = s.readByte b :=
  Memory.read_write_other s.mem v fun e => h (BitVec.eq_of_toNat_eq e)

end Sys2Proof.Machine
end

