-- ==== Sys2Proof/Laws/State.lean ====
section
/-! SUPPORT. What each update of the state leaves in each of its fields, so that no proof unfolds a record update. -/

namespace Sys2Proof.Machine

/-! ### Registers -/

@[simp] theorem State.setReg_reg_same (s : State) (r : Reg) (v : Byte) : (s.setReg r v).reg r = v := by cases r <;> rfl

theorem State.setReg_reg_other (s : State) {r q : Reg} (v : Byte) (h : q ≠ r) : (s.setReg r v).reg q = s.reg q := by
  cases r <;> cases q <;> first | rfl | exact absurd rfl h

@[simp] theorem State.setReg_flags (s : State) (r : Reg) (v : Byte) : (s.setReg r v).regs.flags = s.regs.flags := by
  cases r <;> rfl

@[simp] theorem State.setReg_self (s : State) (r : Reg) : s.setReg r (s.reg r) = s := by cases r <;> rfl

@[simp] theorem State.setFlags_reg (s : State) (f : Flags) (r : Reg) : (s.setFlags f).reg r = s.reg r := by cases r <;> rfl
@[simp] theorem State.setFlags_flags (s : State) (f : Flags) : (s.setFlags f).regs.flags = f := rfl
@[simp] theorem State.setZNH_reg (s : State) (z n h : Bool) (r : Reg) : (s.setZNH z n h).reg r = s.reg r := by
  cases r <;> rfl
@[simp] theorem State.setZNH_flags (s : State) (z n h : Bool) : (s.setZNH z n h).regs.flags = ⟨z, n, h, s.regs.flags.c⟩ := rfl
@[simp] theorem State.setFlag_reg (s : State) (x : FlagName) (b : Bool) (r : Reg) : (s.setFlag x b).reg r = s.reg r := by
  cases x <;> cases r <;> rfl

@[simp] theorem State.writeByte_reg (s : State) (a : Word) (v : Byte) (r : Reg) : (s.writeByte a v).reg r = s.reg r := by cases r <;> rfl

@[simp] theorem State.enterHalt_reg (s : State) (why : HaltReason) (r : Reg) : (s.enterHalt why).reg r = s.reg r := by cases r <;> rfl

@[simp] theorem State.advance_reg (s : State) (len : Nat) (r : Reg) : (s.advance len).reg r = s.reg r := by
  unfold State.advance; dsimp only; split <;> cases r <;> rfl

/-! ### The other fields -/

@[simp] theorem State.setReg_pc (s : State) (r : Reg) (v : Byte) : (s.setReg r v).pc = s.pc := rfl
@[simp] theorem State.setReg_halted (s : State) (r : Reg) (v : Byte) : (s.setReg r v).halted = s.halted := rfl
@[simp] theorem State.setReg_haltReason (s : State) (r : Reg) (v : Byte) : (s.setReg r v).haltReason = s.haltReason := rfl
@[simp] theorem State.setReg_mem (s : State) (r : Reg) (v : Byte) : (s.setReg r v).mem = s.mem := rfl
@[simp] theorem State.setReg_unknownPolicy (s : State) (r : Reg) (v : Byte) : (s.setReg r v).unknownPolicy = s.unknownPolicy := rfl
@[simp] theorem State.setFlags_pc (s : State) (f : Flags) : (s.setFlags f).pc = s.pc := rfl
@[simp] theorem State.setFlags_halted (s : State) (f : Flags) : (s.setFlags f).halted = s.halted := rfl
@[simp] theorem State.setFlags_haltReason (s : State) (f : Flags) : (s.setFlags f).haltReason = s.haltReason := rfl
@[simp] theorem State.setFlags_mem (s : State) (f : Flags) : (s.setFlags f).mem = s.mem := rfl
@[simp] theorem State.setFlags_unknownPolicy (s : State) (f : Flags) : (s.setFlags f).unknownPolicy = s.unknownPolicy := rfl
@[simp] theorem State.setZNH_pc (s : State) (z n h : Bool) : (s.setZNH z n h).pc = s.pc := rfl
@[simp] theorem State.setZNH_halted (s : State) (z n h : Bool) : (s.setZNH z n h).halted = s.halted := rfl
@[simp] theorem State.setZNH_haltReason (s : State) (z n h : Bool) : (s.setZNH z n h).haltReason = s.haltReason := rfl
@[simp] theorem State.setZNH_mem (s : State) (z n h : Bool) : (s.setZNH z n h).mem = s.mem := rfl
@[simp] theorem State.setZNH_unknownPolicy (s : State) (z n h : Bool) : (s.setZNH z n h).unknownPolicy = s.unknownPolicy := rfl
@[simp] theorem State.writeByte_pc (s : State) (a : Word) (v : Byte) : (s.writeByte a v).pc = s.pc := rfl
@[simp] theorem State.writeByte_halted (s : State) (a : Word) (v : Byte) : (s.writeByte a v).halted = s.halted := rfl
@[simp] theorem State.writeByte_haltReason (s : State) (a : Word) (v : Byte) : (s.writeByte a v).haltReason = s.haltReason := rfl
@[simp] theorem State.writeByte_unknownPolicy (s : State) (a : Word) (v : Byte) : (s.writeByte a v).unknownPolicy = s.unknownPolicy := rfl
@[simp] theorem State.writeByte_regs (s : State) (a : Word) (v : Byte) : (s.writeByte a v).regs = s.regs := rfl
@[simp] theorem State.writeByte_mem (s : State) (a : Word) (v : Byte) :
    (s.writeByte a v).mem = Memory.write s.mem a.toNat v := rfl
@[simp] theorem State.enterHalt_pc (s : State) (why : HaltReason) : (s.enterHalt why).pc = s.pc := rfl
@[simp] theorem State.enterHalt_halted (s : State) (why : HaltReason) : (s.enterHalt why).halted = true := rfl
@[simp] theorem State.enterHalt_haltReason (s : State) (why : HaltReason) : (s.enterHalt why).haltReason = why := rfl
@[simp] theorem State.enterHalt_mem (s : State) (why : HaltReason) : (s.enterHalt why).mem = s.mem := rfl
@[simp] theorem State.enterHalt_unknownPolicy (s : State) (why : HaltReason) : (s.enterHalt why).unknownPolicy = s.unknownPolicy := rfl
@[simp] theorem State.enterHalt_regs (s : State) (why : HaltReason) : (s.enterHalt why).regs = s.regs := rfl
@[simp] theorem State.advance_mem (s : State) (len : Nat) : (s.advance len).mem = s.mem := by
  unfold State.advance; dsimp only; split <;> rfl
@[simp] theorem State.advance_unknownPolicy (s : State) (len : Nat) : (s.advance len).unknownPolicy = s.unknownPolicy := by
  unfold State.advance; dsimp only; split <;> rfl
@[simp] theorem State.advance_regs (s : State) (len : Nat) : (s.advance len).regs = s.regs := by
  unfold State.advance; dsimp only; split <;> rfl
@[simp] theorem State.advance_pc (s : State) (len : Nat) : (s.advance len).pc = wrap16 (s.pc.toNat + len) := by
  unfold State.advance; dsimp only; split <;> rfl
@[simp] theorem State.setPair_pc (s : State) (p : Pair) (v : Word) : (s.setPair p v).pc = s.pc := by cases p <;> rfl
@[simp] theorem State.setPair_halted (s : State) (p : Pair) (v : Word) : (s.setPair p v).halted = s.halted := by cases p <;> rfl
@[simp] theorem State.setPair_haltReason (s : State) (p : Pair) (v : Word) : (s.setPair p v).haltReason = s.haltReason := by cases p <;> rfl
@[simp] theorem State.setPair_mem (s : State) (p : Pair) (v : Word) : (s.setPair p v).mem = s.mem := by cases p <;> rfl
@[simp] theorem State.setPair_unknownPolicy (s : State) (p : Pair) (v : Word) : (s.setPair p v).unknownPolicy = s.unknownPolicy := by cases p <;> rfl
@[simp] theorem State.setFlag_pc (s : State) (x : FlagName) (b : Bool) : (s.setFlag x b).pc = s.pc := by cases x <;> rfl
@[simp] theorem State.setFlag_halted (s : State) (x : FlagName) (b : Bool) : (s.setFlag x b).halted = s.halted := by cases x <;> rfl
@[simp] theorem State.setFlag_haltReason (s : State) (x : FlagName) (b : Bool) : (s.setFlag x b).haltReason = s.haltReason := by cases x <;> rfl
@[simp] theorem State.setFlag_mem (s : State) (x : FlagName) (b : Bool) : (s.setFlag x b).mem = s.mem := by cases x <;> rfl
@[simp] theorem State.setFlag_unknownPolicy (s : State) (x : FlagName) (b : Bool) : (s.setFlag x b).unknownPolicy = s.unknownPolicy := by cases x <;> rfl

/-- Every pair view reads registers and flags only. -/
theorem State.pair_of_regs {s t : State} (h : t.regs = s.regs) (p : Pair) : t.pair p = s.pair p := by
  cases p <;> simp [State.pair, h]

/-- Every register and the flags agree, so the register files do. -/
theorem State.regs_ext {s t : State} (hr : ∀ r, t.reg r = s.reg r) (hf : t.regs.flags = s.regs.flags) : t.regs = s.regs := by
  have ha := hr .a; have hb := hr .b; have hc := hr .c; have hd := hr .d
  have he := hr .e; have hh := hr .h; have hl := hr .l
  rcases t with ⟨⟨_, _, _, _, _, _, _, _⟩, _, _, _, _, _⟩
  rcases s with ⟨⟨_, _, _, _, _, _, _, _⟩, _, _, _, _, _⟩
  simp only [State.reg] at *
  subst ha hb hc hd he hh hl hf
  rfl

end Sys2Proof.Machine
end

