-- ==== Sys2Proof/Laws/Exec.lean ====
section
/-! SUPPORT. What each instruction does, by the operation and operand sources of its shape: one lemma per shared operation,
so that a proof about many instructions splits over shapes and not over constructors. -/

namespace Sys2Proof.Machine

variable {i : Instr} {op : AluOp} {src dst x : Operand} {s t : State}

/-- The ALU function of an operation. CP uses SUB's (41_alu8.md R169). -/
def aluFn : AluOp → Byte → Byte → Bool → AluResult
  | .add, a, v, _ => aluAdd a v
  | .adc, a, v, c => aluAdc a v c
  | .sub, a, v, _ => aluSub a v
  | .sbc, a, v, c => aluSbc a v c
  | .and, a, v, _ => aluAnd a v
  | .xor, a, v, _ => aluXor a v
  | .or, a, v, _ => aluOr a v
  | .cp, a, v, _ => aluSub a v

theorem exec_alu (h : i.shape = .alu op src) :
    exec i s = if op = .cp then accCompare (aluFn op) src s else accWrite (aluFn op) src s := by
  cases i <;> cases h <;> rfl

theorem exec_inc (h : i.shape = .inc x) : exec i s = incOperand x s := by
  cases i <;> cases h <;> rfl

theorem exec_dec (h : i.shape = .dec x) : exec i s = decOperand x s := by
  cases i <;> cases h <;> rfl

theorem exec_rlc (h : i.shape = .rlc x) : exec i s = rlcOperand x s := by
  cases i <;> cases h <;> rfl

theorem exec_ld (h : i.shape = .ld dst src) : exec i s = loadOperand dst src s := by
  cases i <;> cases h <;> rfl

theorem exec_nop (h : i.shape = .nop) : exec i s = .next s := by
  cases i <;> cases h
  rfl

theorem exec_halt (h : i.shape = .halt) : exec i s = .next (s.enterHalt .haltOpcode) := by
  cases i <;> cases h
  rfl

theorem exec_unknown {o : Byte} {e : Option Byte} (h : i.shape = .unknown o e) : exec i s = unmapped o e s := by
  cases i <;> cases h <;> rfl

/-- An operand of INC, DEC and RLC is never the immediate. -/
theorem updated_ne_imm8 (h : i.shape = .inc x ∨ i.shape = .dec x ∨ i.shape = .rlc x) : x ≠ .imm8 := by
  rintro rfl
  cases i <;> simp [Instr.shape] at h

theorem loaded_ne_imm8 (h : i.shape = .ld dst src) : dst ≠ .imm8 := by
  rintro rfl
  cases i <;> cases h

/-- What writing an operand gives: the write to the register or to the one byte, or `InvalidOperand`. -/
theorem opndWrite_cases (x : Operand) (v : Byte) (s : State) :
    (∃ r, x = .reg r ∧ opndWrite x v s = .next (s.setReg r v)) ∨
    (∃ p, x = .ind p ∧ opndWrite x v s = .next (s.writeByte (s.pair p.toPair) v)) ∨
    (x = .imm8 ∧ opndWrite x v s = .fault (.invalidOperand s.pc)) := by
  cases x with
  | reg r => exact .inl ⟨r, rfl, rfl⟩
  | imm8 => exact .inr (.inr ⟨rfl, rfl⟩)
  | ind p => exact .inr (.inl ⟨p, rfl, rfl⟩)

theorem andThen_next {r : Result} {f : State → Result} (h : r.andThen f = .next t) : ∃ u, r = .next u ∧ f u = .next t := by
  cases r with
  | next u => exact ⟨u, rfl, h⟩
  | fault e => cases h
  | refused e => cases h

@[simp] theorem andThen_of_next (u : State) (f : State → Result) : Result.andThen (.next u) f = f u := rfl

/-- A step of a running core, by what executing its instruction gives. -/
theorem step_running (h : s.halted = false) :
    step s = Result.andThen (exec s.fetchDecode.instr s) fun t => .next (t.advance s.fetchDecode.len) := by
  simp [step, sequence, h, stepRunning]

theorem step_halted (h : s.halted = true) : step s = .next s := by simp [step, sequence, h]

/-- A next state of a step is the same state, or the state the instruction leaves with pc advanced. -/
theorem step_next (h : step s = .next t) :
    (s.halted = true ∧ t = s) ∨
    (s.halted = false ∧ ∃ u, exec s.fetchDecode.instr s = .next u ∧ t = u.advance s.fetchDecode.len) := by
  cases hh : s.halted with
  | true =>
    rw [step_halted hh] at h
    exact .inl ⟨rfl, by cases h; rfl⟩
  | false =>
    rw [step_running hh] at h
    obtain ⟨u, hu, ht⟩ := andThen_next h
    exact .inr ⟨rfl, u, hu, by cases ht; rfl⟩

end Sys2Proof.Machine
end

