-- ==== Sys2Proof/Laws/PerInstr.lean ====
section
/-! SUPPORT. Facts about each instruction as a term, one lemma per constructor. -/

/-- The bytes of the instruction number what the length rule gives (30_encoding.md R95), 1 or 2. -/
def Sys2Proof.Laws.Length.Statement (i : Sys2Proof.Instr) : Prop :=
  ∀ d8, (Sys2Proof.encode i d8).length = i.len ∧ (i.len = 1 ∨ i.len = 2)

namespace Sys2Proof.Laws.Length

theorem addAB : Statement .addAB := fun _ => ⟨rfl, .inl rfl⟩
theorem addAC : Statement .addAC := fun _ => ⟨rfl, .inl rfl⟩
theorem addAD : Statement .addAD := fun _ => ⟨rfl, .inl rfl⟩
theorem addAE : Statement .addAE := fun _ => ⟨rfl, .inl rfl⟩
theorem addAH : Statement .addAH := fun _ => ⟨rfl, .inl rfl⟩
theorem addAL : Statement .addAL := fun _ => ⟨rfl, .inl rfl⟩
theorem addAIndHL : Statement .addAIndHL := fun _ => ⟨rfl, .inl rfl⟩
theorem addAA : Statement .addAA := fun _ => ⟨rfl, .inl rfl⟩
theorem addAImm : Statement .addAImm := fun _ => ⟨rfl, .inr rfl⟩
theorem adcAB : Statement .adcAB := fun _ => ⟨rfl, .inl rfl⟩
theorem adcAC : Statement .adcAC := fun _ => ⟨rfl, .inl rfl⟩
theorem adcAD : Statement .adcAD := fun _ => ⟨rfl, .inl rfl⟩
theorem adcAE : Statement .adcAE := fun _ => ⟨rfl, .inl rfl⟩
theorem adcAH : Statement .adcAH := fun _ => ⟨rfl, .inl rfl⟩
theorem adcAL : Statement .adcAL := fun _ => ⟨rfl, .inl rfl⟩
theorem adcAIndHL : Statement .adcAIndHL := fun _ => ⟨rfl, .inl rfl⟩
theorem adcAA : Statement .adcAA := fun _ => ⟨rfl, .inl rfl⟩
theorem adcAImm : Statement .adcAImm := fun _ => ⟨rfl, .inr rfl⟩
theorem subB : Statement .subB := fun _ => ⟨rfl, .inl rfl⟩
theorem subC : Statement .subC := fun _ => ⟨rfl, .inl rfl⟩
theorem subD : Statement .subD := fun _ => ⟨rfl, .inl rfl⟩
theorem subE : Statement .subE := fun _ => ⟨rfl, .inl rfl⟩
theorem subH : Statement .subH := fun _ => ⟨rfl, .inl rfl⟩
theorem subL : Statement .subL := fun _ => ⟨rfl, .inl rfl⟩
theorem subIndHL : Statement .subIndHL := fun _ => ⟨rfl, .inl rfl⟩
theorem subA : Statement .subA := fun _ => ⟨rfl, .inl rfl⟩
theorem subImm : Statement .subImm := fun _ => ⟨rfl, .inr rfl⟩
theorem sbcAB : Statement .sbcAB := fun _ => ⟨rfl, .inl rfl⟩
theorem sbcAC : Statement .sbcAC := fun _ => ⟨rfl, .inl rfl⟩
theorem sbcAD : Statement .sbcAD := fun _ => ⟨rfl, .inl rfl⟩
theorem sbcAE : Statement .sbcAE := fun _ => ⟨rfl, .inl rfl⟩
theorem sbcAH : Statement .sbcAH := fun _ => ⟨rfl, .inl rfl⟩
theorem sbcAL : Statement .sbcAL := fun _ => ⟨rfl, .inl rfl⟩
theorem sbcAIndHL : Statement .sbcAIndHL := fun _ => ⟨rfl, .inl rfl⟩
theorem sbcAA : Statement .sbcAA := fun _ => ⟨rfl, .inl rfl⟩
theorem sbcAImm : Statement .sbcAImm := fun _ => ⟨rfl, .inr rfl⟩
theorem andB : Statement .andB := fun _ => ⟨rfl, .inl rfl⟩
theorem andC : Statement .andC := fun _ => ⟨rfl, .inl rfl⟩
theorem andD : Statement .andD := fun _ => ⟨rfl, .inl rfl⟩
theorem andE : Statement .andE := fun _ => ⟨rfl, .inl rfl⟩
theorem andH : Statement .andH := fun _ => ⟨rfl, .inl rfl⟩
theorem andL : Statement .andL := fun _ => ⟨rfl, .inl rfl⟩
theorem andIndHL : Statement .andIndHL := fun _ => ⟨rfl, .inl rfl⟩
theorem andA : Statement .andA := fun _ => ⟨rfl, .inl rfl⟩
theorem andImm : Statement .andImm := fun _ => ⟨rfl, .inr rfl⟩
theorem xorB : Statement .xorB := fun _ => ⟨rfl, .inl rfl⟩
theorem xorC : Statement .xorC := fun _ => ⟨rfl, .inl rfl⟩
theorem xorD : Statement .xorD := fun _ => ⟨rfl, .inl rfl⟩
theorem xorE : Statement .xorE := fun _ => ⟨rfl, .inl rfl⟩
theorem xorH : Statement .xorH := fun _ => ⟨rfl, .inl rfl⟩
theorem xorL : Statement .xorL := fun _ => ⟨rfl, .inl rfl⟩
theorem xorIndHL : Statement .xorIndHL := fun _ => ⟨rfl, .inl rfl⟩
theorem xorA : Statement .xorA := fun _ => ⟨rfl, .inl rfl⟩
theorem xorImm : Statement .xorImm := fun _ => ⟨rfl, .inr rfl⟩
theorem orB : Statement .orB := fun _ => ⟨rfl, .inl rfl⟩
theorem orC : Statement .orC := fun _ => ⟨rfl, .inl rfl⟩
theorem orD : Statement .orD := fun _ => ⟨rfl, .inl rfl⟩
theorem orE : Statement .orE := fun _ => ⟨rfl, .inl rfl⟩
theorem orH : Statement .orH := fun _ => ⟨rfl, .inl rfl⟩
theorem orL : Statement .orL := fun _ => ⟨rfl, .inl rfl⟩
theorem orIndHL : Statement .orIndHL := fun _ => ⟨rfl, .inl rfl⟩
theorem orA : Statement .orA := fun _ => ⟨rfl, .inl rfl⟩
theorem orImm : Statement .orImm := fun _ => ⟨rfl, .inr rfl⟩
theorem cpB : Statement .cpB := fun _ => ⟨rfl, .inl rfl⟩
theorem cpC : Statement .cpC := fun _ => ⟨rfl, .inl rfl⟩
theorem cpD : Statement .cpD := fun _ => ⟨rfl, .inl rfl⟩
theorem cpE : Statement .cpE := fun _ => ⟨rfl, .inl rfl⟩
theorem cpH : Statement .cpH := fun _ => ⟨rfl, .inl rfl⟩
theorem cpL : Statement .cpL := fun _ => ⟨rfl, .inl rfl⟩
theorem cpIndHL : Statement .cpIndHL := fun _ => ⟨rfl, .inl rfl⟩
theorem cpA : Statement .cpA := fun _ => ⟨rfl, .inl rfl⟩
theorem cpImm : Statement .cpImm := fun _ => ⟨rfl, .inr rfl⟩
theorem incB : Statement .incB := fun _ => ⟨rfl, .inl rfl⟩
theorem incC : Statement .incC := fun _ => ⟨rfl, .inl rfl⟩
theorem incD : Statement .incD := fun _ => ⟨rfl, .inl rfl⟩
theorem incE : Statement .incE := fun _ => ⟨rfl, .inl rfl⟩
theorem incH : Statement .incH := fun _ => ⟨rfl, .inl rfl⟩
theorem incL : Statement .incL := fun _ => ⟨rfl, .inl rfl⟩
theorem incIndHL : Statement .incIndHL := fun _ => ⟨rfl, .inl rfl⟩
theorem incA : Statement .incA := fun _ => ⟨rfl, .inl rfl⟩
theorem decB : Statement .decB := fun _ => ⟨rfl, .inl rfl⟩
theorem decC : Statement .decC := fun _ => ⟨rfl, .inl rfl⟩
theorem decD : Statement .decD := fun _ => ⟨rfl, .inl rfl⟩
theorem decE : Statement .decE := fun _ => ⟨rfl, .inl rfl⟩
theorem decH : Statement .decH := fun _ => ⟨rfl, .inl rfl⟩
theorem decL : Statement .decL := fun _ => ⟨rfl, .inl rfl⟩
theorem decIndHL : Statement .decIndHL := fun _ => ⟨rfl, .inl rfl⟩
theorem decA : Statement .decA := fun _ => ⟨rfl, .inl rfl⟩
theorem ldBB : Statement .ldBB := fun _ => ⟨rfl, .inl rfl⟩
theorem ldBC : Statement .ldBC := fun _ => ⟨rfl, .inl rfl⟩
theorem ldBD : Statement .ldBD := fun _ => ⟨rfl, .inl rfl⟩
theorem ldBE : Statement .ldBE := fun _ => ⟨rfl, .inl rfl⟩
theorem ldBH : Statement .ldBH := fun _ => ⟨rfl, .inl rfl⟩
theorem ldBL : Statement .ldBL := fun _ => ⟨rfl, .inl rfl⟩
theorem ldBIndHL : Statement .ldBIndHL := fun _ => ⟨rfl, .inl rfl⟩
theorem ldBA : Statement .ldBA := fun _ => ⟨rfl, .inl rfl⟩
theorem ldCB : Statement .ldCB := fun _ => ⟨rfl, .inl rfl⟩
theorem ldCC : Statement .ldCC := fun _ => ⟨rfl, .inl rfl⟩
theorem ldCD : Statement .ldCD := fun _ => ⟨rfl, .inl rfl⟩
theorem ldCE : Statement .ldCE := fun _ => ⟨rfl, .inl rfl⟩
theorem ldCH : Statement .ldCH := fun _ => ⟨rfl, .inl rfl⟩
theorem ldCL : Statement .ldCL := fun _ => ⟨rfl, .inl rfl⟩
theorem ldCIndHL : Statement .ldCIndHL := fun _ => ⟨rfl, .inl rfl⟩
theorem ldCA : Statement .ldCA := fun _ => ⟨rfl, .inl rfl⟩
theorem ldDB : Statement .ldDB := fun _ => ⟨rfl, .inl rfl⟩
theorem ldDC : Statement .ldDC := fun _ => ⟨rfl, .inl rfl⟩
theorem ldDD : Statement .ldDD := fun _ => ⟨rfl, .inl rfl⟩
theorem ldDE : Statement .ldDE := fun _ => ⟨rfl, .inl rfl⟩
theorem ldDH : Statement .ldDH := fun _ => ⟨rfl, .inl rfl⟩
theorem ldDL : Statement .ldDL := fun _ => ⟨rfl, .inl rfl⟩
theorem ldDIndHL : Statement .ldDIndHL := fun _ => ⟨rfl, .inl rfl⟩
theorem ldDA : Statement .ldDA := fun _ => ⟨rfl, .inl rfl⟩
theorem ldEB : Statement .ldEB := fun _ => ⟨rfl, .inl rfl⟩
theorem ldEC : Statement .ldEC := fun _ => ⟨rfl, .inl rfl⟩
theorem ldED : Statement .ldED := fun _ => ⟨rfl, .inl rfl⟩
theorem ldEE : Statement .ldEE := fun _ => ⟨rfl, .inl rfl⟩
theorem ldEH : Statement .ldEH := fun _ => ⟨rfl, .inl rfl⟩
theorem ldEL : Statement .ldEL := fun _ => ⟨rfl, .inl rfl⟩
theorem ldEIndHL : Statement .ldEIndHL := fun _ => ⟨rfl, .inl rfl⟩
theorem ldEA : Statement .ldEA := fun _ => ⟨rfl, .inl rfl⟩
theorem ldHB : Statement .ldHB := fun _ => ⟨rfl, .inl rfl⟩
theorem ldHC : Statement .ldHC := fun _ => ⟨rfl, .inl rfl⟩
theorem ldHD : Statement .ldHD := fun _ => ⟨rfl, .inl rfl⟩
theorem ldHE : Statement .ldHE := fun _ => ⟨rfl, .inl rfl⟩
theorem ldHH : Statement .ldHH := fun _ => ⟨rfl, .inl rfl⟩
theorem ldHL : Statement .ldHL := fun _ => ⟨rfl, .inl rfl⟩
theorem ldHIndHL : Statement .ldHIndHL := fun _ => ⟨rfl, .inl rfl⟩
theorem ldHA : Statement .ldHA := fun _ => ⟨rfl, .inl rfl⟩
theorem ldLB : Statement .ldLB := fun _ => ⟨rfl, .inl rfl⟩
theorem ldLC : Statement .ldLC := fun _ => ⟨rfl, .inl rfl⟩
theorem ldLD : Statement .ldLD := fun _ => ⟨rfl, .inl rfl⟩
theorem ldLE : Statement .ldLE := fun _ => ⟨rfl, .inl rfl⟩
theorem ldLH : Statement .ldLH := fun _ => ⟨rfl, .inl rfl⟩
theorem ldLL : Statement .ldLL := fun _ => ⟨rfl, .inl rfl⟩
theorem ldLIndHL : Statement .ldLIndHL := fun _ => ⟨rfl, .inl rfl⟩
theorem ldLA : Statement .ldLA := fun _ => ⟨rfl, .inl rfl⟩
theorem ldIndHLB : Statement .ldIndHLB := fun _ => ⟨rfl, .inl rfl⟩
theorem ldIndHLC : Statement .ldIndHLC := fun _ => ⟨rfl, .inl rfl⟩
theorem ldIndHLD : Statement .ldIndHLD := fun _ => ⟨rfl, .inl rfl⟩
theorem ldIndHLE : Statement .ldIndHLE := fun _ => ⟨rfl, .inl rfl⟩
theorem ldIndHLH : Statement .ldIndHLH := fun _ => ⟨rfl, .inl rfl⟩
theorem ldIndHLL : Statement .ldIndHLL := fun _ => ⟨rfl, .inl rfl⟩
theorem ldIndHLA : Statement .ldIndHLA := fun _ => ⟨rfl, .inl rfl⟩
theorem ldAB : Statement .ldAB := fun _ => ⟨rfl, .inl rfl⟩
theorem ldAC : Statement .ldAC := fun _ => ⟨rfl, .inl rfl⟩
theorem ldAD : Statement .ldAD := fun _ => ⟨rfl, .inl rfl⟩
theorem ldAE : Statement .ldAE := fun _ => ⟨rfl, .inl rfl⟩
theorem ldAH : Statement .ldAH := fun _ => ⟨rfl, .inl rfl⟩
theorem ldAL : Statement .ldAL := fun _ => ⟨rfl, .inl rfl⟩
theorem ldAIndHL : Statement .ldAIndHL := fun _ => ⟨rfl, .inl rfl⟩
theorem ldAA : Statement .ldAA := fun _ => ⟨rfl, .inl rfl⟩
theorem ldBImm : Statement .ldBImm := fun _ => ⟨rfl, .inr rfl⟩
theorem ldCImm : Statement .ldCImm := fun _ => ⟨rfl, .inr rfl⟩
theorem ldDImm : Statement .ldDImm := fun _ => ⟨rfl, .inr rfl⟩
theorem ldEImm : Statement .ldEImm := fun _ => ⟨rfl, .inr rfl⟩
theorem ldHImm : Statement .ldHImm := fun _ => ⟨rfl, .inr rfl⟩
theorem ldLImm : Statement .ldLImm := fun _ => ⟨rfl, .inr rfl⟩
theorem ldIndHLImm : Statement .ldIndHLImm := fun _ => ⟨rfl, .inr rfl⟩
theorem ldAImm : Statement .ldAImm := fun _ => ⟨rfl, .inr rfl⟩
theorem ldAIndBC : Statement .ldAIndBC := fun _ => ⟨rfl, .inl rfl⟩
theorem ldAIndDE : Statement .ldAIndDE := fun _ => ⟨rfl, .inl rfl⟩
theorem ldIndBCA : Statement .ldIndBCA := fun _ => ⟨rfl, .inl rfl⟩
theorem ldIndDEA : Statement .ldIndDEA := fun _ => ⟨rfl, .inl rfl⟩
theorem rlcB : Statement .rlcB := fun _ => ⟨rfl, .inr rfl⟩
theorem rlcC : Statement .rlcC := fun _ => ⟨rfl, .inr rfl⟩
theorem rlcD : Statement .rlcD := fun _ => ⟨rfl, .inr rfl⟩
theorem rlcE : Statement .rlcE := fun _ => ⟨rfl, .inr rfl⟩
theorem rlcH : Statement .rlcH := fun _ => ⟨rfl, .inr rfl⟩
theorem rlcL : Statement .rlcL := fun _ => ⟨rfl, .inr rfl⟩
theorem rlcIndHL : Statement .rlcIndHL := fun _ => ⟨rfl, .inr rfl⟩
theorem rlcA : Statement .rlcA := fun _ => ⟨rfl, .inr rfl⟩
theorem nop : Statement .nop := fun _ => ⟨rfl, .inl rfl⟩
theorem halt : Statement .halt := fun _ => ⟨rfl, .inl rfl⟩
theorem unknown (op : Byte) : Statement (.unknown op) := fun _ => ⟨rfl, .inl rfl⟩
theorem unknownCB (ext : Byte) : Statement (.unknownCB ext) := fun _ => ⟨rfl, .inr rfl⟩

end Sys2Proof.Laws.Length
end

