-- ==== Sys2Proof/Tests/Slice0.lean ====
section
/-! SUPPORT. Tests. Every expected value is the spec's: the tables of 30_encoding.md, the vectors of 95_test_vectors.md.
Each witness shows a state and operands that meet the hypotheses of the obligation it is named after. -/

open Sys2Proof Sys2Proof.Machine

namespace Sys2Proof.Tests

/-! ### Well-formedness (R99, R100) -/

theorem test_mapped_opcode_is_no_unknown : (Instr.unknown 0x00).wf = false := by decide
theorem test_prefix_is_no_unknown : (Instr.unknown 0xCB).wf = false := by decide
theorem test_mapped_extended_is_no_unknown : (Instr.unknownCB 0x07).wf = false := by decide
theorem test_unmapped_are_well_formed :
    ((Instr.unknown 0xFF).wf && (Instr.unknown 0x01).wf && (Instr.unknownCB 0x08).wf && (Instr.unknownCB 0xFF).wf) = true := by decide

/-! ### Decoding: the base page by the rows of R98, the CB page by R99. The byte after the opcode is 0xCB throughout, which
no base opcode looks at. -/

/-- The instructions and lengths a list of opcodes decodes to. -/
def decoded (bytes : List Byte) : List (Instr × Nat) := bytes.map fun b => ((decode b 0xCB).instr, (decode b 0xCB).len)

/-- The same for extended opcodes. -/
def decodedCB (bytes : List Byte) : List (Instr × Nat) := bytes.map fun b => ((decode 0xCB b).instr, (decode 0xCB b).len)

theorem test_decode_0x_low :
    decoded [0x00, 0x01, 0x02, 0x03, 0x04, 0x05, 0x06, 0x07] =
      [(.nop, 1), (.unknown 0x01, 1), (.ldIndBCA, 1), (.unknown 0x03, 1), (.incB, 1), (.decB, 1), (.ldBImm, 2), (.unknown 0x07, 1)] := by decide
theorem test_decode_0x_high :
    decoded [0x08, 0x09, 0x0A, 0x0B, 0x0C, 0x0D, 0x0E, 0x0F] =
      [(.unknown 0x08, 1), (.unknown 0x09, 1), (.ldAIndBC, 1), (.unknown 0x0B, 1), (.incC, 1), (.decC, 1), (.ldCImm, 2), (.unknown 0x0F, 1)] := by decide
theorem test_decode_1x_low :
    decoded [0x10, 0x11, 0x12, 0x13, 0x14, 0x15, 0x16, 0x17] =
      [(.unknown 0x10, 1), (.unknown 0x11, 1), (.ldIndDEA, 1), (.unknown 0x13, 1), (.incD, 1), (.decD, 1), (.ldDImm, 2), (.unknown 0x17, 1)] := by decide
theorem test_decode_1x_high :
    decoded [0x18, 0x19, 0x1A, 0x1B, 0x1C, 0x1D, 0x1E, 0x1F] =
      [(.unknown 0x18, 1), (.unknown 0x19, 1), (.ldAIndDE, 1), (.unknown 0x1B, 1), (.incE, 1), (.decE, 1), (.ldEImm, 2), (.unknown 0x1F, 1)] := by decide
theorem test_decode_2x_low :
    decoded [0x20, 0x21, 0x22, 0x23, 0x24, 0x25, 0x26, 0x27] =
      [(.unknown 0x20, 1), (.unknown 0x21, 1), (.unknown 0x22, 1), (.unknown 0x23, 1), (.incH, 1), (.decH, 1), (.ldHImm, 2), (.unknown 0x27, 1)] := by decide
theorem test_decode_2x_high :
    decoded [0x28, 0x29, 0x2A, 0x2B, 0x2C, 0x2D, 0x2E, 0x2F] =
      [(.unknown 0x28, 1), (.unknown 0x29, 1), (.unknown 0x2A, 1), (.unknown 0x2B, 1), (.incL, 1), (.decL, 1), (.ldLImm, 2), (.unknown 0x2F, 1)] := by decide
theorem test_decode_3x_low :
    decoded [0x30, 0x31, 0x32, 0x33, 0x34, 0x35, 0x36, 0x37] =
      [(.unknown 0x30, 1), (.unknown 0x31, 1), (.unknown 0x32, 1), (.unknown 0x33, 1), (.incIndHL, 1), (.decIndHL, 1), (.ldIndHLImm, 2), (.unknown 0x37, 1)] := by decide
theorem test_decode_3x_high :
    decoded [0x38, 0x39, 0x3A, 0x3B, 0x3C, 0x3D, 0x3E, 0x3F] =
      [(.unknown 0x38, 1), (.unknown 0x39, 1), (.unknown 0x3A, 1), (.unknown 0x3B, 1), (.incA, 1), (.decA, 1), (.ldAImm, 2), (.unknown 0x3F, 1)] := by decide
theorem test_decode_4x_low :
    decoded [0x40, 0x41, 0x42, 0x43, 0x44, 0x45, 0x46, 0x47] =
      [(.ldBB, 1), (.ldBC, 1), (.ldBD, 1), (.ldBE, 1), (.ldBH, 1), (.ldBL, 1), (.ldBIndHL, 1), (.ldBA, 1)] := by decide
theorem test_decode_4x_high :
    decoded [0x48, 0x49, 0x4A, 0x4B, 0x4C, 0x4D, 0x4E, 0x4F] =
      [(.ldCB, 1), (.ldCC, 1), (.ldCD, 1), (.ldCE, 1), (.ldCH, 1), (.ldCL, 1), (.ldCIndHL, 1), (.ldCA, 1)] := by decide
theorem test_decode_5x_low :
    decoded [0x50, 0x51, 0x52, 0x53, 0x54, 0x55, 0x56, 0x57] =
      [(.ldDB, 1), (.ldDC, 1), (.ldDD, 1), (.ldDE, 1), (.ldDH, 1), (.ldDL, 1), (.ldDIndHL, 1), (.ldDA, 1)] := by decide
theorem test_decode_5x_high :
    decoded [0x58, 0x59, 0x5A, 0x5B, 0x5C, 0x5D, 0x5E, 0x5F] =
      [(.ldEB, 1), (.ldEC, 1), (.ldED, 1), (.ldEE, 1), (.ldEH, 1), (.ldEL, 1), (.ldEIndHL, 1), (.ldEA, 1)] := by decide
theorem test_decode_6x_low :
    decoded [0x60, 0x61, 0x62, 0x63, 0x64, 0x65, 0x66, 0x67] =
      [(.ldHB, 1), (.ldHC, 1), (.ldHD, 1), (.ldHE, 1), (.ldHH, 1), (.ldHL, 1), (.ldHIndHL, 1), (.ldHA, 1)] := by decide
theorem test_decode_6x_high :
    decoded [0x68, 0x69, 0x6A, 0x6B, 0x6C, 0x6D, 0x6E, 0x6F] =
      [(.ldLB, 1), (.ldLC, 1), (.ldLD, 1), (.ldLE, 1), (.ldLH, 1), (.ldLL, 1), (.ldLIndHL, 1), (.ldLA, 1)] := by decide
theorem test_decode_7x_low :
    decoded [0x70, 0x71, 0x72, 0x73, 0x74, 0x75, 0x76, 0x77] =
      [(.ldIndHLB, 1), (.ldIndHLC, 1), (.ldIndHLD, 1), (.ldIndHLE, 1), (.ldIndHLH, 1), (.ldIndHLL, 1), (.halt, 1), (.ldIndHLA, 1)] := by decide
theorem test_decode_7x_high :
    decoded [0x78, 0x79, 0x7A, 0x7B, 0x7C, 0x7D, 0x7E, 0x7F] =
      [(.ldAB, 1), (.ldAC, 1), (.ldAD, 1), (.ldAE, 1), (.ldAH, 1), (.ldAL, 1), (.ldAIndHL, 1), (.ldAA, 1)] := by decide
theorem test_decode_8x_low :
    decoded [0x80, 0x81, 0x82, 0x83, 0x84, 0x85, 0x86, 0x87] =
      [(.addAB, 1), (.addAC, 1), (.addAD, 1), (.addAE, 1), (.addAH, 1), (.addAL, 1), (.addAIndHL, 1), (.addAA, 1)] := by decide
theorem test_decode_8x_high :
    decoded [0x88, 0x89, 0x8A, 0x8B, 0x8C, 0x8D, 0x8E, 0x8F] =
      [(.adcAB, 1), (.adcAC, 1), (.adcAD, 1), (.adcAE, 1), (.adcAH, 1), (.adcAL, 1), (.adcAIndHL, 1), (.adcAA, 1)] := by decide
theorem test_decode_9x_low :
    decoded [0x90, 0x91, 0x92, 0x93, 0x94, 0x95, 0x96, 0x97] =
      [(.subB, 1), (.subC, 1), (.subD, 1), (.subE, 1), (.subH, 1), (.subL, 1), (.subIndHL, 1), (.subA, 1)] := by decide
theorem test_decode_9x_high :
    decoded [0x98, 0x99, 0x9A, 0x9B, 0x9C, 0x9D, 0x9E, 0x9F] =
      [(.sbcAB, 1), (.sbcAC, 1), (.sbcAD, 1), (.sbcAE, 1), (.sbcAH, 1), (.sbcAL, 1), (.sbcAIndHL, 1), (.sbcAA, 1)] := by decide
theorem test_decode_Ax_low :
    decoded [0xA0, 0xA1, 0xA2, 0xA3, 0xA4, 0xA5, 0xA6, 0xA7] =
      [(.andB, 1), (.andC, 1), (.andD, 1), (.andE, 1), (.andH, 1), (.andL, 1), (.andIndHL, 1), (.andA, 1)] := by decide
theorem test_decode_Ax_high :
    decoded [0xA8, 0xA9, 0xAA, 0xAB, 0xAC, 0xAD, 0xAE, 0xAF] =
      [(.xorB, 1), (.xorC, 1), (.xorD, 1), (.xorE, 1), (.xorH, 1), (.xorL, 1), (.xorIndHL, 1), (.xorA, 1)] := by decide
theorem test_decode_Bx_low :
    decoded [0xB0, 0xB1, 0xB2, 0xB3, 0xB4, 0xB5, 0xB6, 0xB7] =
      [(.orB, 1), (.orC, 1), (.orD, 1), (.orE, 1), (.orH, 1), (.orL, 1), (.orIndHL, 1), (.orA, 1)] := by decide
theorem test_decode_Bx_high :
    decoded [0xB8, 0xB9, 0xBA, 0xBB, 0xBC, 0xBD, 0xBE, 0xBF] =
      [(.cpB, 1), (.cpC, 1), (.cpD, 1), (.cpE, 1), (.cpH, 1), (.cpL, 1), (.cpIndHL, 1), (.cpA, 1)] := by decide
theorem test_decode_Cx_low :
    decoded [0xC0, 0xC1, 0xC2, 0xC3, 0xC4, 0xC5, 0xC6, 0xC7] =
      [(.unknown 0xC0, 1), (.unknown 0xC1, 1), (.unknown 0xC2, 1), (.unknown 0xC3, 1), (.unknown 0xC4, 1), (.unknown 0xC5, 1), (.addAImm, 2), (.unknown 0xC7, 1)] := by decide
theorem test_decode_Cx_high :
    decoded [0xC8, 0xC9, 0xCA, 0xCC, 0xCD, 0xCE, 0xCF] =
      [(.unknown 0xC8, 1), (.unknown 0xC9, 1), (.unknown 0xCA, 1), (.unknown 0xCC, 1), (.unknown 0xCD, 1), (.adcAImm, 2), (.unknown 0xCF, 1)] := by decide
theorem test_decode_Dx_low :
    decoded [0xD0, 0xD1, 0xD2, 0xD3, 0xD4, 0xD5, 0xD6, 0xD7] =
      [(.unknown 0xD0, 1), (.unknown 0xD1, 1), (.unknown 0xD2, 1), (.unknown 0xD3, 1), (.unknown 0xD4, 1), (.unknown 0xD5, 1), (.subImm, 2), (.unknown 0xD7, 1)] := by decide
theorem test_decode_Dx_high :
    decoded [0xD8, 0xD9, 0xDA, 0xDB, 0xDC, 0xDD, 0xDE, 0xDF] =
      [(.unknown 0xD8, 1), (.unknown 0xD9, 1), (.unknown 0xDA, 1), (.unknown 0xDB, 1), (.unknown 0xDC, 1), (.unknown 0xDD, 1), (.sbcAImm, 2), (.unknown 0xDF, 1)] := by decide
theorem test_decode_Ex_low :
    decoded [0xE0, 0xE1, 0xE2, 0xE3, 0xE4, 0xE5, 0xE6, 0xE7] =
      [(.unknown 0xE0, 1), (.unknown 0xE1, 1), (.unknown 0xE2, 1), (.unknown 0xE3, 1), (.unknown 0xE4, 1), (.unknown 0xE5, 1), (.andImm, 2), (.unknown 0xE7, 1)] := by decide
theorem test_decode_Ex_high :
    decoded [0xE8, 0xE9, 0xEA, 0xEB, 0xEC, 0xED, 0xEE, 0xEF] =
      [(.unknown 0xE8, 1), (.unknown 0xE9, 1), (.unknown 0xEA, 1), (.unknown 0xEB, 1), (.unknown 0xEC, 1), (.unknown 0xED, 1), (.xorImm, 2), (.unknown 0xEF, 1)] := by decide
theorem test_decode_Fx_low :
    decoded [0xF0, 0xF1, 0xF2, 0xF3, 0xF4, 0xF5, 0xF6, 0xF7] =
      [(.unknown 0xF0, 1), (.unknown 0xF1, 1), (.unknown 0xF2, 1), (.unknown 0xF3, 1), (.unknown 0xF4, 1), (.unknown 0xF5, 1), (.orImm, 2), (.unknown 0xF7, 1)] := by decide
theorem test_decode_Fx_high :
    decoded [0xF8, 0xF9, 0xFA, 0xFB, 0xFC, 0xFD, 0xFE, 0xFF] =
      [(.unknown 0xF8, 1), (.unknown 0xF9, 1), (.unknown 0xFA, 1), (.unknown 0xFB, 1), (.unknown 0xFC, 1), (.unknown 0xFD, 1), (.cpImm, 2), (.unknown 0xFF, 1)] := by decide
theorem test_decode_cb_page :
    decodedCB [0x00, 0x01, 0x02, 0x03, 0x04, 0x05, 0x06, 0x07] =
      [(.rlcB, 2), (.rlcC, 2), (.rlcD, 2), (.rlcE, 2), (.rlcH, 2), (.rlcL, 2), (.rlcIndHL, 2), (.rlcA, 2)] := by decide
theorem test_decode_cb_unmapped :
    decodedCB [0x08, 0x37, 0x80, 0xFF] = [(.unknownCB 0x08, 2), (.unknownCB 0x37, 2), (.unknownCB 0x80, 2), (.unknownCB 0xFF, 2)] := by decide
/-- Words written bit by bit from the formats of R93 and the fields of R91 and R92. -/
theorem test_decode_bits :
    [(decode 0b01010100 0).instr, (decode 0b10011001 0).instr, (decode 0b11111110 0).instr, (decode 0b00101100 0).instr,
      (decode 0b00000101 0).instr, (decode 0b00110110 0).instr, (decode 0b00011010 0).instr, (decode 0b11001011 0b00000010).instr] =
      [.ldDH, .sbcAC, .cpImm, .incL, .decB, .ldIndHLImm, .ldAIndDE, .rlcD] := by decide

/-! ### Encoding and the opcode table's numbering -/

theorem test_encode_formats :
    [encode .addAB 0x99, encode .ldAImm 0x05, encode .rlcA 0x99, encode (.unknown 0xFF) 0x99, encode (.unknownCB 0x37) 0x99] =
      [[0x80], [0x3E, 0x05], [0xCB, 0x07], [0xFF], [0xCB, 0x37]] := by decide
theorem test_decode_needs_both_bytes :
    [decodeBytes [], decodeBytes [0xCB], decodeBytes [0x3E]].all (fun r => match r with | .ok _ _ => false | .reject _ => true) = true := by decide
/-- The matches 0x06, 0x01, 0x76, 0xCB00, 0xCB06 and 0xCB08 of spec/opcode_table.json. -/
theorem test_table_words :
    [decodeTableWord 16 0x06, decodeTableWord 8 0x01, decodeTableWord 8 0x76, decodeTableWord 16 0xCB00, decodeTableWord 16 0xCB06,
      decodeTableWord 16 0xCB08] =
      [some .ldBImm, some (.unknown 0x01), some .halt, some .rlcB, some .rlcIndHL, some (.unknownCB 0x08)] := by decide
/-- INC A placed at reset runs, on a core whose A is 0. -/
theorem test_with_fetch_word :
    (Result.state? (step (State.reset.withFetchWord 8 0x3C))).map (fun t => (t.regs.a, t.pc)) = some (0x01, 0x0001) := by decide

/-! ### The assembler (R103) -/

theorem test_assemble_source_program :
    [assemble "LD A,0x05".toList, assemble "LD B,3".toList, assemble "ADD A,B".toList] =
      [some [0x3E, 0x05], some [0x06, 0x03], some [0x80]] := by decide
theorem test_assemble_both_spellings :
    [assemble "SUB A,E".toList, assemble "SUB E".toList, assemble "RLC (HL)".toList, assemble "LD (BC),A".toList] =
      [some [0x93], some [0x93], some [0xCB, 0x06], some [0x02]] := by decide
theorem test_assemble_refuses :
    [assemble "LD (HL),(HL)".toList, assemble "INC 5".toList, assemble "LD A,256".toList, assemble "JP 0".toList] =
      [none, none, none, none] := by decide

/-! ### The ALU functions (95_test_vectors.md 2.1) -/

theorem test_add_function :
    [(aluAdd 0x00 0x00), (aluAdd 0x0F 0x01), (aluAdd 0x08 0x08), (aluAdd 0xF0 0x10), (aluAdd 0xFF 0x01), (aluAdd 0xFF 0xFF), (aluAdd 0x7F 0x01), (aluAdd 0x80 0x80), (aluAdd 0x12 0x34)] =
      ([⟨0x00, ⟨true, false, false, false⟩⟩, ⟨0x10, ⟨false, false, true, false⟩⟩, ⟨0x10, ⟨false, false, true, false⟩⟩, ⟨0x00, ⟨true, false, false, true⟩⟩, ⟨0x00, ⟨true, false, true, true⟩⟩, ⟨0xFE, ⟨false, false, true, true⟩⟩, ⟨0x80, ⟨false, false, true, false⟩⟩, ⟨0x00, ⟨true, false, false, true⟩⟩, ⟨0x46, ⟨false, false, false, false⟩⟩] : List AluResult) := by decide
theorem test_adc_function :
    [(aluAdc 0x00 0x00 false), (aluAdc 0x00 0x00 true), (aluAdc 0x0F 0x00 true), (aluAdc 0x0E 0x01 true), (aluAdc 0xFF 0x00 true), (aluAdc 0xFE 0x01 true), (aluAdc 0xFF 0xFF true), (aluAdc 0xF0 0x0F true), (aluAdc 0x12 0x34 true)] =
      ([⟨0x00, ⟨true, false, false, false⟩⟩, ⟨0x01, ⟨false, false, false, false⟩⟩, ⟨0x10, ⟨false, false, true, false⟩⟩, ⟨0x10, ⟨false, false, true, false⟩⟩, ⟨0x00, ⟨true, false, true, true⟩⟩, ⟨0x00, ⟨true, false, true, true⟩⟩, ⟨0xFF, ⟨false, false, true, true⟩⟩, ⟨0x00, ⟨true, false, true, true⟩⟩, ⟨0x47, ⟨false, false, false, false⟩⟩] : List AluResult) := by decide
theorem test_sub_function :
    [(aluSub 0x00 0x00), (aluSub 0x00 0x01), (aluSub 0x10 0x01), (aluSub 0x01 0x01), (aluSub 0x3E 0x3E), (aluSub 0x80 0x01), (aluSub 0x0F 0x10), (aluSub 0xFF 0xFF), (aluSub 0x34 0x12)] =
      ([⟨0x00, ⟨true, true, false, false⟩⟩, ⟨0xFF, ⟨false, true, true, true⟩⟩, ⟨0x0F, ⟨false, true, true, false⟩⟩, ⟨0x00, ⟨true, true, false, false⟩⟩, ⟨0x00, ⟨true, true, false, false⟩⟩, ⟨0x7F, ⟨false, true, true, false⟩⟩, ⟨0xFF, ⟨false, true, false, true⟩⟩, ⟨0x00, ⟨true, true, false, false⟩⟩, ⟨0x22, ⟨false, true, false, false⟩⟩] : List AluResult) := by decide
theorem test_sbc_function :
    [(aluSbc 0x00 0x00 false), (aluSbc 0x00 0x00 true), (aluSbc 0x10 0x0F true), (aluSbc 0x10 0x0F false), (aluSbc 0x01 0x00 true), (aluSbc 0x42 0x42 true), (aluSbc 0x00 0xFF true), (aluSbc 0xFF 0xFF true), (aluSbc 0x34 0x12 true)] =
      ([⟨0x00, ⟨true, true, false, false⟩⟩, ⟨0xFF, ⟨false, true, true, true⟩⟩, ⟨0x00, ⟨true, true, true, false⟩⟩, ⟨0x01, ⟨false, true, true, false⟩⟩, ⟨0x00, ⟨true, true, false, false⟩⟩, ⟨0xFF, ⟨false, true, true, true⟩⟩, ⟨0x00, ⟨true, true, true, true⟩⟩, ⟨0xFF, ⟨false, true, true, true⟩⟩, ⟨0x21, ⟨false, true, false, false⟩⟩] : List AluResult) := by decide
theorem test_and_function :
    [(aluAnd 0xFF 0x00), (aluAnd 0xF0 0x0F), (aluAnd 0xFF 0xFF), (aluAnd 0x5A 0x0F), (aluAnd 0x00 0x00)] =
      ([⟨0x00, ⟨true, false, true, false⟩⟩, ⟨0x00, ⟨true, false, true, false⟩⟩, ⟨0xFF, ⟨false, false, true, false⟩⟩, ⟨0x0A, ⟨false, false, true, false⟩⟩, ⟨0x00, ⟨true, false, true, false⟩⟩] : List AluResult) := by decide
theorem test_or_function :
    [(aluOr 0x00 0x00), (aluOr 0xF0 0x0F), (aluOr 0x80 0x00), (aluOr 0x00 0x01)] =
      ([⟨0x00, ⟨true, false, false, false⟩⟩, ⟨0xFF, ⟨false, false, false, false⟩⟩, ⟨0x80, ⟨false, false, false, false⟩⟩, ⟨0x01, ⟨false, false, false, false⟩⟩] : List AluResult) := by decide
theorem test_xor_function :
    [(aluXor 0xFF 0xFF), (aluXor 0xAA 0x55), (aluXor 0x0F 0xFF), (aluXor 0x00 0x00)] =
      ([⟨0x00, ⟨true, false, false, false⟩⟩, ⟨0xFF, ⟨false, false, false, false⟩⟩, ⟨0xF0, ⟨false, false, false, false⟩⟩, ⟨0x00, ⟨true, false, false, false⟩⟩] : List AluResult) := by decide
theorem test_cp_function :
    [(aluSub 0x3C 0x3C).flags, (aluSub 0x3C 0x40).flags, (aluSub 0x3C 0x2F).flags, (aluSub 0x00 0x00).flags, (aluSub 0x00 0x01).flags, (aluSub 0x80 0x7F).flags, (aluSub 0xFF 0x00).flags] =
      ([⟨true, true, false, false⟩, ⟨false, true, false, true⟩, ⟨false, true, true, false⟩, ⟨true, true, false, false⟩, ⟨false, true, true, true⟩, ⟨false, true, true, false⟩, ⟨false, true, false, false⟩] : List Flags) := by decide

/-! ### Single steps (95_test_vectors.md 2.2 to 2.6, W5, W6, W9) -/

/-- A running core: registers a, b, c, d, e, h, l and flags z, n, h, c, the rest as given. -/
def core (policy : UnknownPolicy) (pc : Word) (regs : RegFile) (cells : List (Nat × Byte)) : State :=
  { State.create regs policy with pc := pc, mem := cells.foldl (fun m c => Memory.write m c.1 c.2) [] }

/-- The registers, pc, halted and halt_reason after one step. -/
def after (s : State) : Option (RegFile × Word × Bool × HaltReason) :=
  (Result.state? (step s)).map fun t => (t.regs, t.pc, t.halted, t.haltReason)

/-- The byte at an address after one step. -/
def byteAfter (s : State) (a : Word) : Option Byte := (Result.state? (step s)).map fun t => t.readByte a

/-- No flag set; every flag set. -/
def f0 : Flags := ⟨false, false, false, false⟩
def f1 : Flags := ⟨true, true, true, true⟩

theorem test_add_a_a :
    after (core .strict 0x0100 ⟨0x81, 0x00, 0x00, 0x00, 0x00, 0x00, 0x00, f0⟩ [(0x0100, 0x87)]) =
      some (⟨0x02, 0x00, 0x00, 0x00, 0x00, 0x00, 0x00, ⟨false, false, false, true⟩⟩, 0x0101, false, .none) := by decide
theorem test_add_a_ind_hl :
    after (core .strict 0x0100 ⟨0x3C, 0x00, 0x00, 0x00, 0x00, 0xC0, 0x00, f1⟩ [(0x0100, 0x86), (0xC000, 0x12)]) =
      some (⟨0x4E, 0x00, 0x00, 0x00, 0x00, 0xC0, 0x00, ⟨false, false, false, false⟩⟩, 0x0101, false, .none) := by decide
theorem test_adc_a_e :
    after (core .strict 0x0100 ⟨0xE1, 0x00, 0x00, 0x00, 0x0F, 0x00, 0x00, ⟨false, false, false, true⟩⟩ [(0x0100, 0x8B)]) =
      some (⟨0xF1, 0x00, 0x00, 0x00, 0x0F, 0x00, 0x00, ⟨false, false, true, false⟩⟩, 0x0101, false, .none) := by decide
theorem test_adc_a_d8 :
    after (core .strict 0x0100 ⟨0xE1, 0x00, 0x00, 0x00, 0x00, 0x00, 0x00, ⟨false, false, false, true⟩⟩ [(0x0100, 0xCE), (0x0101, 0x3B)]) =
      some (⟨0x1D, 0x00, 0x00, 0x00, 0x00, 0x00, 0x00, ⟨false, false, false, true⟩⟩, 0x0102, false, .none) := by decide
theorem test_sub_ind_hl :
    after (core .strict 0x0100 ⟨0x3E, 0x00, 0x00, 0x00, 0x00, 0x40, 0x00, f0⟩ [(0x0100, 0x96), (0x4000, 0x40)]) =
      some (⟨0xFE, 0x00, 0x00, 0x00, 0x00, 0x40, 0x00, ⟨false, true, false, true⟩⟩, 0x0101, false, .none) := by decide
theorem test_sub_d8_at_top :
    after (core .strict 0xFFFE ⟨0x10, 0x00, 0x00, 0x00, 0x00, 0x00, 0x00, f0⟩ [(0xFFFE, 0xD6), (0xFFFF, 0x11)]) =
      some (⟨0xFF, 0x00, 0x00, 0x00, 0x00, 0x00, 0x00, ⟨false, true, true, true⟩⟩, 0x0000, true, .pcOverflow) := by decide
theorem test_sbc_a_ind_hl :
    after (core .strict 0x0100 ⟨0x3B, 0x00, 0x00, 0x00, 0x00, 0x02, 0x00, ⟨false, false, false, true⟩⟩ [(0x0100, 0x9E), (0x0200, 0x4F)]) =
      some (⟨0xEB, 0x00, 0x00, 0x00, 0x00, 0x02, 0x00, ⟨false, true, true, true⟩⟩, 0x0101, false, .none) := by decide
theorem test_sbc_a_d8 :
    after (core .strict 0x0100 ⟨0x3B, 0x00, 0x00, 0x00, 0x00, 0x00, 0x00, ⟨false, false, false, true⟩⟩ [(0x0100, 0xDE), (0x0101, 0x3A)]) =
      some (⟨0x00, 0x00, 0x00, 0x00, 0x00, 0x00, 0x00, ⟨true, true, false, false⟩⟩, 0x0102, false, .none) := by decide
theorem test_cp_ind_hl :
    after (core .strict 0x0100 ⟨0x3C, 0x00, 0x00, 0x00, 0x00, 0x00, 0x40, f0⟩ [(0x0100, 0xBE), (0x0040, 0x40)]) =
      some (⟨0x3C, 0x00, 0x00, 0x00, 0x00, 0x00, 0x40, ⟨false, true, false, true⟩⟩, 0x0101, false, .none) := by decide
theorem test_cp_b :
    after (core .strict 0x0100 ⟨0x3C, 0x2F, 0x00, 0x00, 0x00, 0x00, 0x00, f0⟩ [(0x0100, 0xB8)]) =
      some (⟨0x3C, 0x2F, 0x00, 0x00, 0x00, 0x00, 0x00, ⟨false, true, true, false⟩⟩, 0x0101, false, .none) := by decide
theorem test_and_l :
    after (core .strict 0x0100 ⟨0x5A, 0x00, 0x00, 0x00, 0x00, 0x00, 0x3F, ⟨false, false, false, true⟩⟩ [(0x0100, 0xA5)]) =
      some (⟨0x1A, 0x00, 0x00, 0x00, 0x00, 0x00, 0x3F, ⟨false, false, true, false⟩⟩, 0x0101, false, .none) := by decide
theorem test_or_ind_hl_own_opcode :
    after (core .strict 0x0100 ⟨0x00, 0x00, 0x00, 0x00, 0x00, 0x01, 0x00, f0⟩ [(0x0100, 0xB6)]) =
      some (⟨0xB6, 0x00, 0x00, 0x00, 0x00, 0x01, 0x00, ⟨false, false, false, false⟩⟩, 0x0101, false, .none) := by decide
theorem test_or_d8 :
    after (core .strict 0x0100 ⟨0x5A, 0x00, 0x00, 0x00, 0x00, 0x00, 0x00, f1⟩ [(0x0100, 0xF6), (0x0101, 0x03)]) =
      some (⟨0x5B, 0x00, 0x00, 0x00, 0x00, 0x00, 0x00, ⟨false, false, false, false⟩⟩, 0x0102, false, .none) := by decide
theorem test_xor_a :
    after (core .strict 0x0100 ⟨0xFF, 0x00, 0x00, 0x00, 0x00, 0x00, 0x00, ⟨false, false, false, true⟩⟩ [(0x0100, 0xAF)]) =
      some (⟨0x00, 0x00, 0x00, 0x00, 0x00, 0x00, 0x00, ⟨true, false, false, false⟩⟩, 0x0101, false, .none) := by decide
theorem test_xor_d8 :
    after (core .strict 0x0100 ⟨0xFF, 0x00, 0x00, 0x00, 0x00, 0x00, 0x00, f1⟩ [(0x0100, 0xEE), (0x0101, 0x0F)]) =
      some (⟨0xF0, 0x00, 0x00, 0x00, 0x00, 0x00, 0x00, ⟨false, false, false, false⟩⟩, 0x0102, false, .none) := by decide
theorem test_add_a_d8_immediate_wraps :
    after (core .strict 0xFFFF ⟨0x10, 0x00, 0x00, 0x00, 0x00, 0x00, 0x00, f0⟩ [(0xFFFF, 0xC6), (0x0000, 0x05)]) =
      some (⟨0x15, 0x00, 0x00, 0x00, 0x00, 0x00, 0x00, ⟨false, false, false, false⟩⟩, 0x0001, true, .pcOverflow) := by decide
theorem test_inc_l_leaves_h :
    after (core .strict 0x0100 ⟨0x00, 0x00, 0x00, 0x00, 0x00, 0x00, 0xFF, f0⟩ [(0x0100, 0x2C)]) =
      some (⟨0x00, 0x00, 0x00, 0x00, 0x00, 0x00, 0x00, ⟨true, false, true, false⟩⟩, 0x0101, false, .none) := by decide
theorem test_inc_b_keeps_c :
    after (core .strict 0x0100 ⟨0x00, 0x0F, 0x00, 0x00, 0x00, 0x00, 0x00, ⟨false, false, false, true⟩⟩ [(0x0100, 0x04)]) =
      some (⟨0x00, 0x10, 0x00, 0x00, 0x00, 0x00, 0x00, ⟨false, false, true, true⟩⟩, 0x0101, false, .none) := by decide
theorem test_dec_h :
    after (core .strict 0x0100 ⟨0x00, 0x00, 0x00, 0x00, 0x00, 0x00, 0x00, ⟨false, false, false, true⟩⟩ [(0x0100, 0x25)]) =
      some (⟨0x00, 0x00, 0x00, 0x00, 0x00, 0xFF, 0x00, ⟨false, true, true, true⟩⟩, 0x0101, false, .none) := by decide
theorem test_dec_d :
    after (core .strict 0x0100 ⟨0x00, 0x00, 0x00, 0x01, 0x00, 0x00, 0x00, ⟨false, false, false, true⟩⟩ [(0x0100, 0x15)]) =
      some (⟨0x00, 0x00, 0x00, 0x00, 0x00, 0x00, 0x00, ⟨true, true, false, true⟩⟩, 0x0101, false, .none) := by decide
theorem test_ld_b_c :
    after (core .strict 0x0100 ⟨0x00, 0x11, 0x22, 0x00, 0x00, 0x00, 0x00, f1⟩ [(0x0100, 0x41)]) =
      some (⟨0x00, 0x22, 0x22, 0x00, 0x00, 0x00, 0x00, f1⟩, 0x0101, false, .none) := by decide
theorem test_ld_h_ind_hl :
    after (core .strict 0x0100 ⟨0x00, 0x00, 0x00, 0x00, 0x00, 0x12, 0x34, f1⟩ [(0x0100, 0x66), (0x1234, 0x56)]) =
      some (⟨0x00, 0x00, 0x00, 0x00, 0x00, 0x56, 0x34, f1⟩, 0x0101, false, .none) := by decide
theorem test_ld_l_ind_hl :
    after (core .strict 0x0100 ⟨0x00, 0x00, 0x00, 0x00, 0x00, 0x12, 0x34, f0⟩ [(0x0100, 0x6E), (0x1234, 0x56)]) =
      some (⟨0x00, 0x00, 0x00, 0x00, 0x00, 0x12, 0x56, f0⟩, 0x0101, false, .none) := by decide
theorem test_ld_c_d8 :
    after (core .strict 0x0100 ⟨0x00, 0x00, 0x00, 0x00, 0x00, 0x00, 0x00, f1⟩ [(0x0100, 0x0E), (0x0101, 0xF7)]) =
      some (⟨0x00, 0x00, 0xF7, 0x00, 0x00, 0x00, 0x00, f1⟩, 0x0102, false, .none) := by decide
theorem test_ld_a_ind_bc :
    after (core .strict 0x0100 ⟨0x00, 0x20, 0x00, 0x00, 0x00, 0x00, 0x00, f0⟩ [(0x0100, 0x0A), (0x2000, 0x3D)]) =
      some (⟨0x3D, 0x20, 0x00, 0x00, 0x00, 0x00, 0x00, f0⟩, 0x0101, false, .none) := by decide
theorem test_ld_a_ind_de :
    after (core .strict 0x0100 ⟨0x00, 0x00, 0x00, 0xFF, 0xFF, 0x00, 0x00, f0⟩ [(0x0100, 0x1A), (0xFFFF, 0x81)]) =
      some (⟨0x81, 0x00, 0x00, 0xFF, 0xFF, 0x00, 0x00, f0⟩, 0x0101, false, .none) := by decide
theorem test_ld_d_d8_immediate_wraps :
    after (core .strict 0xFFFF ⟨0x00, 0x00, 0x00, 0x00, 0x00, 0x00, 0x00, f0⟩ [(0xFFFF, 0x16), (0x0000, 0x99)]) =
      some (⟨0x00, 0x00, 0x00, 0x99, 0x00, 0x00, 0x00, f0⟩, 0x0001, true, .pcOverflow) := by decide
theorem test_ld_a_d8_up_to_top :
    after (core .strict 0xFFFD ⟨0x00, 0x00, 0x00, 0x00, 0x00, 0x00, 0x00, f0⟩ [(0xFFFD, 0x3E), (0xFFFE, 0x42)]) =
      some (⟨0x42, 0x00, 0x00, 0x00, 0x00, 0x00, 0x00, f0⟩, 0xFFFF, false, .none) := by decide
theorem test_inc_a_at_top :
    after (core .strict 0xFFFF ⟨0x41, 0x00, 0x00, 0x00, 0x00, 0x00, 0x00, ⟨false, false, false, true⟩⟩ [(0xFFFF, 0x3C)]) =
      some (⟨0x42, 0x00, 0x00, 0x00, 0x00, 0x00, 0x00, ⟨false, false, false, true⟩⟩, 0x0000, true, .pcOverflow) := by decide
theorem test_rlc_b :
    after (core .strict 0x0100 ⟨0x00, 0x85, 0x00, 0x00, 0x00, 0x00, 0x00, f0⟩ [(0x0100, 0xCB), (0x0101, 0x00)]) =
      some (⟨0x00, 0x0B, 0x00, 0x00, 0x00, 0x00, 0x00, ⟨false, false, false, true⟩⟩, 0x0102, false, .none) := by decide
theorem test_rlc_a_zero_with_old_carry :
    after (core .strict 0x0100 ⟨0x00, 0x00, 0x00, 0x00, 0x00, 0x00, 0x00, ⟨false, false, false, true⟩⟩ [(0x0100, 0xCB), (0x0101, 0x07)]) =
      some (⟨0x00, 0x00, 0x00, 0x00, 0x00, 0x00, 0x00, ⟨true, false, false, false⟩⟩, 0x0102, false, .none) := by decide
theorem test_rlc_c_extended_wraps :
    after (core .strict 0xFFFF ⟨0x00, 0x00, 0x40, 0x00, 0x00, 0x00, 0x00, f0⟩ [(0xFFFF, 0xCB), (0x0000, 0x01)]) =
      some (⟨0x00, 0x00, 0x80, 0x00, 0x00, 0x00, 0x00, ⟨false, false, false, false⟩⟩, 0x0001, true, .pcOverflow) := by decide
theorem test_nop :
    after (core .strict 0x0005 ⟨0x01, 0x00, 0x00, 0x00, 0x00, 0x00, 0x00, f1⟩ []) =
      some (⟨0x01, 0x00, 0x00, 0x00, 0x00, 0x00, 0x00, f1⟩, 0x0006, false, .none) := by decide
theorem test_halt_at_top_keeps_its_reason :
    after (core .strict 0xFFFF ⟨0x00, 0x00, 0x00, 0x00, 0x00, 0x00, 0x00, f1⟩ [(0xFFFF, 0x76)]) =
      some (⟨0x00, 0x00, 0x00, 0x00, 0x00, 0x00, 0x00, f1⟩, 0x0000, true, .haltOpcode) := by decide
theorem test_permissive_skips_one_byte :
    after (core .permissive 0x0200 ⟨0x80, 0x00, 0x00, 0x00, 0x00, 0x00, 0x00, f1⟩ [(0x0200, 0x10), (0x0201, 0x00)]) =
      some (⟨0x80, 0x00, 0x00, 0x00, 0x00, 0x00, 0x00, f1⟩, 0x0201, false, .none) := by decide
theorem test_permissive_skips_cb_pair_at_top :
    after (core .permissive 0xFFFE ⟨0x00, 0x00, 0x00, 0x00, 0x00, 0x00, 0x00, f0⟩ [(0xFFFE, 0xCB), (0xFFFF, 0x08)]) =
      some (⟨0x00, 0x00, 0x00, 0x00, 0x00, 0x00, 0x00, f0⟩, 0x0000, true, .pcOverflow) := by decide
theorem test_inc_ind_hl_own_opcode :
    byteAfter (core .strict 0x0100 ⟨0x00, 0x00, 0x00, 0x00, 0x00, 0x01, 0x00, f0⟩ [(0x0100, 0x34)]) 0x0100 = some 0x35 := by decide
theorem test_dec_ind_hl_top :
    byteAfter (core .strict 0x0100 ⟨0x00, 0x00, 0x00, 0x00, 0x00, 0xFF, 0xFF, f0⟩ [(0x0100, 0x35)]) 0xFFFF = some 0xFF := by decide
theorem test_ld_ind_hl_h :
    byteAfter (core .strict 0x0100 ⟨0x00, 0x00, 0x00, 0x00, 0x00, 0x80, 0x00, f0⟩ [(0x0100, 0x74)]) 0x8000 = some 0x80 := by decide
theorem test_ld_ind_hl_d8 :
    byteAfter (core .strict 0x0100 ⟨0x00, 0x00, 0x00, 0x00, 0x00, 0xD0, 0x00, f0⟩ [(0x0100, 0x36), (0x0101, 0x5C)]) 0xD000 = some 0x5C := by decide
theorem test_ld_ind_bc_a :
    byteAfter (core .strict 0x0100 ⟨0x4B, 0x20, 0x01, 0x00, 0x00, 0x00, 0x00, f0⟩ [(0x0100, 0x02)]) 0x2001 = some 0x4B := by decide
theorem test_ld_ind_de_a :
    byteAfter (core .strict 0x0100 ⟨0x4B, 0x00, 0x00, 0x00, 0x00, 0x00, 0x00, f0⟩ [(0x0100, 0x12)]) 0x0000 = some 0x4B := by decide
theorem test_rlc_ind_hl :
    byteAfter (core .strict 0x0100 ⟨0x00, 0x00, 0x00, 0x00, 0x00, 0xC0, 0x00, f0⟩ [(0x0100, 0xCB), (0x0101, 0x06), (0xC000, 0xFF)]) 0xC000 = some 0xFF := by decide
theorem test_strict_errors :
    [(step (core .strict 0x0200 RegFile.zero [(0x0200, 0x07)])), (step (core .strict 0x0200 RegFile.zero [(0x0200, 0xCB), (0x0201, 0x37)])),
      (step (core .strict 0x0000 RegFile.zero [(0x0000, 0xFF)]))].map Result.fault? =
      [some (.unknownOpcode 0x07 none 0x0200), some (.unknownOpcode 0xCB (some 0x37) 0x0200), some (.unknownOpcode 0xFF none 0x0000)] := by decide
/-- A halted core takes no fetch: neither INC A nor an unmapped byte at pc does anything. -/
theorem test_halted_step :
    [step ((core .strict 6 RegFile.zero [(6, 0xFF)]).enterHalt .haltOpcode), step ((core .strict 6 RegFile.zero [(6, 0x3C)]).enterHalt .haltOpcode)].map
      (fun r => (Result.state? r).map fun t => (t.regs.a, t.pc)) = [some (0, 6), some (0, 6)] := by decide
theorem test_invalid_operand : Result.fault? (opndWrite .imm8 0x12 State.reset) = some (.invalidOperand 0x0000) := by decide
theorem test_write_of_zero_unlists : Memory.write [(5, 0x01)] 5 0x00 = [] := by decide
theorem test_write_keeps_order : Memory.write [(1, 0x01), (9, 0x09)] 5 0x05 = [(1, 0x01), (5, 0x05), (9, 0x09)] := by decide
/-- The boot of the image of W9, and a run of it under each policy. -/
theorem test_boot_and_run :
    [UnknownPolicy.strict, .permissive].map (fun p => (Result.state? (boot RegFile.zero p [0xFF, 0x76])).map fun s => run [.step, .step] s) =
      [some (.faulted (.unknownOpcode 0xFF none 0x0000) (core .strict 0 RegFile.zero [(0, 0xFF), (1, 0x76)])),
       some (.final ((core .permissive 2 RegFile.zero [(0, 0xFF), (1, 0x76)]).enterHalt .haltOpcode))] := by decide

/-! ### Witnesses: a state and operands that meet each obligation's hypotheses -/

/-- A core with HL = pc = 0x0100, one instruction there. -/
def at0100 (policy : UnknownPolicy) (b0 b1 : Byte) : State :=
  core policy 0x0100 ⟨0x12, 0, 0, 0, 0, 0x01, 0x00, f1⟩ [(0x0100, b0), (0x0101, b1)]

/-- A core with one instruction at the last address, and HL at 0xC000. -/
def atTop (policy : UnknownPolicy) (b0 b1 : Byte) : State :=
  core policy 0xFFFF ⟨0x12, 0, 0, 0, 0, 0xC0, 0x00, f0⟩ [(0xFFFF, b0), (0x0000, b1)]

theorem witness_DecodeEncodeRoundTrip :
    Instr.WellFormed .ldAImm ∧ Instr.WellFormed (.unknown 0xFF) ∧ Instr.WellFormed (.unknownCB 0x08) := by decide
theorem witness_UnmappedEncodingsDecodeAsUnknown :
    (0x01 : Byte) ∈ unmappedOpcodes ∧ (0xFF : Byte) ∈ unmappedOpcodes ∧ ¬ ((0x00 : Byte) ∈ unmappedOpcodes) ∧
    ¬ ((0xFE : Byte) ∈ unmappedOpcodes) ∧ 8 ≤ (0x08 : Byte).toNat ∧ (0x07 : Byte).toNat < 8 := by decide
theorem witness_LengthRule :
    ((at0100 .strict 0x3E 0x42).halted = false ∧ ∃ t, step (at0100 .strict 0x3E 0x42) = .next t) ∧
    ((atTop .strict 0xCB 0x01).halted = false ∧ ∃ t, step (atTop .strict 0xCB 0x01) = .next t) :=
  ⟨⟨rfl, _, rfl⟩, ⟨rfl, _, rfl⟩⟩
theorem witness_NoInstructionWritesTheImmediate :
    destOperand (Instr.ldIndHLImm).shape = some (.ind .hl) ∧ destOperand (Instr.ldAImm).shape = some (.reg .a) ∧
    destOperand (Instr.rlcB).shape = some (.reg .b) := by decide
theorem witness_AssemblerInvertsText :
    (Instr.cpImm).shape.text 0x3C = some "CP 0x3C".toList ∧ (Instr.ldIndDEA).shape.text 0 = some "LD (DE),A".toList ∧
    (Instr.unknown 0xFF).shape.text 0 = none := by decide
theorem witness_MemWriteSetsOneByte :
    (at0100 .strict 0x34 0).mem.wf = true ∧ (0x0101 : Word) ≠ 0x0100 ∧ (0x0000 : Word) ≠ 0xFFFF := by decide
theorem witness_OperandReadForms : (atTop .strict 0xC6 0x05).pc = 0xFFFF := by decide
theorem witness_OperandWriteThenRead :
    (atTop .strict 0x77 0).mem.wf = true ∧ Operand.ind .hl ≠ .imm8 ∧ Operand.reg .a ≠ .imm8 := by decide
theorem witness_BulkLoadWritesItsBytes :
    State.reset.mem.wf = true ∧ 65534 + ([0x11, 0x22] : List Byte).length ≤ 65536 ∧ 1 < ([0x11, 0x22] : List Byte).length ∧
    (65533 < 65534 ∨ 65534 + ([0x11, 0x22] : List Byte).length ≤ 65533) ∧
    65536 < 65535 + ([0x11, 0x22] : List Byte).length := by decide
theorem witness_AddWritesSumAndFlags :
    (Instr.addAA).shape = .alu .add (.reg .a) ∧ (Instr.addAIndHL).shape = .alu .add (.ind .hl) ∧
    (Instr.addAImm).shape = .alu .add .imm8 := by decide
theorem witness_AdcWritesSumWithCarryAndFlags : (Instr.adcAIndHL).shape = .alu .adc (.ind .hl) := by decide
theorem witness_SubWritesDifferenceAndFlags : (Instr.subE).shape = .alu .sub (.reg .e) := by decide
theorem witness_SbcWritesDifferenceWithBorrowAndFlags : (Instr.sbcAImm).shape = .alu .sbc .imm8 := by decide
theorem witness_CompareKeepsAAndWritesFlags : (Instr.cpIndHL).shape = .alu .cp (.ind .hl) := by decide
theorem witness_AndWritesConjunctionAndFlags : (Instr.andImm).shape = .alu .and .imm8 := by decide
theorem witness_OrWritesDisjunctionAndFlags : (Instr.orA).shape = .alu .or (.reg .a) := by decide
theorem witness_XorWritesExclusiveOrAndFlags : (Instr.xorL).shape = .alu .xor (.reg .l) := by decide
theorem witness_IncWritesOperandPlusOne :
    (Instr.incIndHL).shape = .inc (.ind .hl) ∧ (Instr.incA).shape = .inc (.reg .a) ∧ (at0100 .strict 0x34 0).mem.wf = true := by decide
theorem witness_DecWritesOperandMinusOne :
    (Instr.decIndHL).shape = .dec (.ind .hl) ∧ (Instr.decH).shape = .dec (.reg .h) ∧ (at0100 .strict 0x35 0).mem.wf = true := by decide
theorem witness_RlcRotatesOperandLeft :
    (Instr.rlcIndHL).shape = .rlc (.ind .hl) ∧ (Instr.rlcL).shape = .rlc (.reg .l) ∧ (at0100 .strict 0xCB 0x06).mem.wf = true := by decide
theorem witness_LoadMovesSourceToDestination :
    (Instr.ldBC).shape = .ld (.reg .b) (.reg .c) ∧ (Instr.ldIndBCA).shape = .ld (.ind .bc) (.reg .a) ∧
    (Instr.ldIndHLImm).shape = .ld (.ind .hl) .imm8 ∧ (at0100 .strict 0x02 0).mem.wf = true := by decide
theorem witness_NopDoesNothingThenStepAdvancesPc :
    (State.reset.halted = false ∧ State.reset.readByte State.reset.pc = 0x00) ∧
    (atTop .strict 0x00 0).halted = false ∧ (atTop .strict 0x00 0).readByte (atTop .strict 0x00 0).pc = 0x00 ∧
    (atTop .strict 0x00 0).pc = 0xFFFF := by decide
theorem witness_HaltEntersHaltedWithHaltOpcode :
    (atTop .strict 0x76 0).halted = false ∧ (atTop .strict 0x76 0).readByte (atTop .strict 0x76 0).pc = 0x76 := by decide
theorem witness_UnknownOpcodeStrictRaises :
    [(at0100 .strict 0xFF 0).fetchDecode.instr.shape, (at0100 .strict 0xCB 0x37).fetchDecode.instr.shape] =
      [.unknown 0xFF none, .unknown 0xCB (some 0x37)] ∧
    (at0100 .strict 0xFF 0).halted = false ∧ (at0100 .strict 0xFF 0).unknownPolicy = .strict ∧
    (at0100 .strict 0xCB 0x37).halted = false ∧ (at0100 .strict 0xCB 0x37).unknownPolicy = .strict := by decide
theorem witness_UnknownOpcodePermissiveSkips :
    [(atTop .permissive 0x07 0).fetchDecode.instr.shape, (at0100 .permissive 0xCB 0x08).fetchDecode.instr.shape] =
      [.unknown 0x07 none, .unknown 0xCB (some 0x08)] ∧
    (atTop .permissive 0x07 0).halted = false ∧ (atTop .permissive 0x07 0).unknownPolicy = .permissive ∧
    (at0100 .permissive 0xCB 0x08).halted = false ∧ (at0100 .permissive 0xCB 0x08).unknownPolicy = .permissive := by decide
theorem witness_AccumulatorFrame :
    ((Instr.addAImm).shape = .alu .add .imm8 ∧ ∃ t, exec .addAImm (at0100 .strict 0xC6 0x01) = .next t) ∧
    ((Instr.cpIndHL).shape = .alu .cp (.ind .hl) ∧ ∃ t, exec .cpIndHL (at0100 .strict 0xBE 0) = .next t) :=
  ⟨⟨rfl, _, rfl⟩, ⟨rfl, _, rfl⟩⟩
theorem witness_RegisterDestinationFrame :
    ((∃ t, exec .incB State.reset = .next t) ∧ (Instr.incB).shape = .inc (.reg .b)) ∧
    ((∃ t, exec .decB State.reset = .next t) ∧ (Instr.decB).shape = .dec (.reg .b)) ∧
    ((∃ t, exec .rlcB State.reset = .next t) ∧ (Instr.rlcB).shape = .rlc (.reg .b)) ∧
    ((∃ t, exec .ldBImm State.reset = .next t) ∧ ∃ src, (Instr.ldBImm).shape = .ld (.reg .b) src) :=
  ⟨⟨⟨_, rfl⟩, rfl⟩, ⟨⟨_, rfl⟩, rfl⟩, ⟨⟨_, rfl⟩, rfl⟩, ⟨⟨_, rfl⟩, _, rfl⟩⟩
theorem witness_MemoryDestinationFrame :
    ((∃ t, exec .incIndHL (at0100 .strict 0x34 0) = .next t) ∧ (Instr.incIndHL).shape = .inc (.ind .hl)) ∧
    ((∃ t, exec .decIndHL (at0100 .strict 0x35 0) = .next t) ∧ (Instr.decIndHL).shape = .dec (.ind .hl)) ∧
    ((∃ t, exec .rlcIndHL (at0100 .strict 0xCB 6) = .next t) ∧ (Instr.rlcIndHL).shape = .rlc (.ind .hl)) ∧
    ((∃ t, exec .ldIndDEA (at0100 .strict 0x12 0) = .next t) ∧ ∃ src, (Instr.ldIndDEA).shape = .ld (.ind .de) src) :=
  ⟨⟨⟨_, rfl⟩, rfl⟩, ⟨⟨_, rfl⟩, rfl⟩, ⟨⟨_, rfl⟩, rfl⟩, ⟨⟨_, rfl⟩, _, rfl⟩⟩
theorem witness_ControlFrame :
    ((∃ t, exec .nop State.reset = .next t) ∧ (Instr.nop).shape = .nop) ∧
    ((∃ t, exec .halt State.reset = .next t) ∧ (Instr.halt).shape = .halt) ∧
    ((∃ t, exec (.unknownCB 0x08) (at0100 .permissive 0xCB 0x08) = .next t) ∧
      ∃ op ext, (Instr.unknownCB 0x08).shape = .unknown op ext) :=
  ⟨⟨⟨_, rfl⟩, rfl⟩, ⟨⟨_, rfl⟩, rfl⟩, ⟨⟨_, rfl⟩, _, _, rfl⟩⟩
theorem witness_FlagsFeedOnlyAdcAndSbc :
    ((∀ src, (Instr.addAB).shape ≠ .alu .adc src ∧ (Instr.addAB).shape ≠ .alu .sbc src) ∧ ∃ t, exec .addAB State.reset = .next t) ∧
    ((∀ src, (Instr.rlcA).shape ≠ .alu .adc src ∧ (Instr.rlcA).shape ≠ .alu .sbc src) ∧ ∃ t, exec .rlcA State.reset = .next t) ∧
    ((∀ src, (Instr.incIndHL).shape ≠ .alu .adc src ∧ (Instr.incIndHL).shape ≠ .alu .sbc src) ∧
      ∃ t, exec .incIndHL State.reset = .next t) :=
  ⟨⟨fun _ => ⟨nofun, nofun⟩, _, rfl⟩, ⟨fun _ => ⟨nofun, nofun⟩, _, rfl⟩, ⟨fun _ => ⟨nofun, nofun⟩, _, rfl⟩⟩
theorem witness_StepRunsTheDecodedInstruction :
    (∃ t, (at0100 .strict 0x3E 0x42).halted = false ∧ (at0100 .strict 0x3E 0x42).fetchDecode = ⟨.ldAImm, 2⟩ ∧
      Instr.WellFormed .ldAImm ∧ [0x3E, 0x42].take (Instr.ldAImm).len = encode .ldAImm 0x42 ∧
      exec .ldAImm (at0100 .strict 0x3E 0x42) = .next t) ∧
    (∃ e, (at0100 .strict 0xFF 0).fetchDecode = ⟨.unknown 0xFF, 1⟩ ∧ exec (.unknown 0xFF) (at0100 .strict 0xFF 0) = .fault e) :=
  ⟨⟨_, rfl, rfl, rfl, rfl, rfl⟩, ⟨_, rfl, rfl⟩⟩
theorem witness_HaltedStepIsNoop : (State.reset.enterHalt .haltOpcode).halted = true := by decide
theorem witness_AdvanceWrapsAndHaltsAtTheTop :
    ((atTop .strict 0 0).pc.toNat + 1 > 65535 ∧ (atTop .strict 0 0).halted = false) ∧
    ¬ ((core .strict 0xFFFE RegFile.zero []).pc.toNat + 1 > 65535 ∧ (core .strict 0xFFFE RegFile.zero []).halted = false) := by decide
theorem witness_PcMovesOnlyByTheAdvance :
    ((atTop .strict 0x76 0).halted = false ∧ ∃ t, step (atTop .strict 0x76 0) = .next t ∧ t.halted = true) ∧
    ((atTop .strict 0x3C 0).halted = false ∧ ∃ t, step (atTop .strict 0x3C 0) = .next t ∧ t.halted = true) ∧
    ((at0100 .strict 0x3C 0).halted = false ∧ ∃ t, step (at0100 .strict 0x3C 0) = .next t ∧ t.halted = false) :=
  ⟨⟨rfl, _, rfl, rfl⟩, ⟨rfl, _, rfl, rfl⟩, ⟨rfl, _, rfl, rfl⟩⟩
theorem witness_StepStoresOnlyAtItsDestination :
    (∃ t, step (at0100 .strict 0x34 0) = .next t ∧
      instrStoreAddr (at0100 .strict 0x34 0).fetchDecode.instr (at0100 .strict 0x34 0) = some 0x0100 ∧
      instrStoreAddr (at0100 .strict 0x34 0).fetchDecode.instr (at0100 .strict 0x34 0) ≠ some 0x0101) ∧
    (∃ t, step (State.reset.enterHalt .haltOpcode) = .next t ∧ (State.reset.enterHalt .haltOpcode).halted = true) :=
  ⟨⟨_, rfl, rfl, by decide⟩, ⟨_, rfl, rfl⟩⟩
theorem witness_StepErrorsAreExactlyUnknownOpcodeInStrictMode :
    (at0100 .permissive 0xFF 0).unknownPolicy = .permissive ∧ (at0100 .permissive 0xFF 0).halted = false ∧
    (at0100 .permissive 0xFF 0).fetchDecode.instr.shape = .unknown 0xFF none := by decide
theorem witness_StepKeepsInvariant :
    (at0100 .strict 0x34 0).Inv ∧ ∃ t, step (at0100 .strict 0x34 0) = .next t :=
  ⟨⟨by decide, by decide⟩, _, rfl⟩
theorem witness_HostWritesKeepInvariantAndRunState :
    State.reset.Inv ∧ (at0100 .strict 0x34 0).mem.wf = true ∧ HostAction.setPair .af 0x12FF = .setPair .af 0x12FF :=
  ⟨⟨by decide, by decide⟩, by decide, rfl⟩
theorem witness_HaltedIsTerminal : ((at0100 .strict 0xFF 0).enterHalt .pcOverflow).halted = true := by decide
theorem witness_FaultedRunKeepsTheStateBeforeTheFault :
    run [.host (.setPc 0x0101), .step] (at0100 .strict 0x00 0xFF) =
      .faulted (.unknownOpcode 0xFF none 0x0101) { at0100 .strict 0x00 0xFF with pc := 0x0101 } := by decide
theorem witness_RunsWithoutHostEndWithin65536Steps :
    Config.memorySize ≤ (at0100 .permissive 0 0).pc.toNat + 65280 ∧ Config.memorySize ≤ (atTop .strict 0 0).pc.toNat + 1 ∧
    (at0100 .permissive 0 0).unknownPolicy = .permissive := by decide
theorem witness_StoreIsSeenByTheNextFetch :
    let s := core .strict 0x0100 ⟨0x3C, 0, 0, 0x01, 0x01, 0, 0, f0⟩ [(0x0100, 0x12)]
    s.halted = false ∧ s.mem.wf = true ∧ s.fetchDecode.instr.shape = .ld (.ind .de) (.reg .a) ∧
    s.pair .de = BitVec.ofNat 16 ((s.pc.toNat + s.fetchDecode.len) % 65536) := by decide
theorem witness_InstructionMayOverwriteItself :
    ((at0100 .strict 0x34 0).halted = false ∧ (at0100 .strict 0x34 0).mem.wf = true ∧
      (at0100 .strict 0x34 0).fetchDecode.instr = .incIndHL ∧ (at0100 .strict 0x34 0).pair .hl = (at0100 .strict 0x34 0).pc) ∧
    ((at0100 .strict 0x35 0).halted = false ∧ (at0100 .strict 0x35 0).mem.wf = true ∧
      (at0100 .strict 0x35 0).fetchDecode.instr = .decIndHL ∧ (at0100 .strict 0x35 0).pair .hl = (at0100 .strict 0x35 0).pc) ∧
    (let s := core .strict 0x00FF ⟨0, 0, 0, 0, 0, 0x01, 0x00, f0⟩ [(0x00FF, 0xCB), (0x0100, 0x06)]
     s.halted = false ∧ s.mem.wf = true ∧ s.fetchDecode.instr = .rlcIndHL ∧
      s.pair .hl = BitVec.ofNat 16 ((s.pc.toNat + 1) % 65536)) := by decide
theorem witness_BootLoadsTheImageAtZero :
    (List.replicate 65536 (0x76 : Byte)).length ≤ 65536 ∧ 65536 < (List.replicate 65537 (0x76 : Byte)).length ∧
    1 < ([0x3C, 0x76] : List Byte).length ∧ ([0x3C, 0x76] : List Byte).length ≤ (0x0002 : Word).toNat :=
  ⟨by rw [List.length_replicate], by rw [List.length_replicate]; decide, by decide, by decide⟩

end Sys2Proof.Tests
end

section
/-! The statements of 10_state.md, settled over one inversion of `exec`: an instruction enters Halted (HALT), or completes
and changes nothing but registers, flags and bytes, or is an unmapped encoding under the strict policy and raises
UnknownOpcode. -/

namespace Sys2Proof.Machine

/-! ### Changes of data alone -/

/-- From `s` to `t` only registers, flags and bytes may have changed, and the canonical form of memory is kept. -/
structure DataOnly (s t : State) : Prop where
  pc : t.pc = s.pc
  halted : t.halted = s.halted
  haltReason : t.haltReason = s.haltReason
  unknownPolicy : t.unknownPolicy = s.unknownPolicy
  wf : s.mem.wf = true → t.mem.wf = true

namespace DataOnly

theorem refl (s : State) : DataOnly s s := ⟨rfl, rfl, rfl, rfl, id⟩

theorem setReg {s t : State} (h : DataOnly s t) (r : Reg) (v : Byte) : DataOnly s (t.setReg r v) :=
  ⟨h.pc, h.halted, h.haltReason, h.unknownPolicy, h.wf⟩

theorem setFlags {s t : State} (h : DataOnly s t) (f : Flags) : DataOnly s (t.setFlags f) :=
  ⟨h.pc, h.halted, h.haltReason, h.unknownPolicy, h.wf⟩

theorem setZNH {s t : State} (h : DataOnly s t) (z n c : Bool) : DataOnly s (t.setZNH z n c) := h.setFlags _

theorem writeByte {s t : State} (h : DataOnly s t) (a : Word) (v : Byte) : DataOnly s (t.writeByte a v) :=
  ⟨h.pc, h.halted, h.haltReason, h.unknownPolicy, fun hm => State.wf_writeByte a v (h.wf hm)⟩

theorem inv {s t : State} (h : DataOnly s t) (hs : s.Inv) : t.Inv :=
  ⟨h.wf hs.1, by rw [h.halted, h.haltReason]; exact hs.2⟩

end DataOnly

/-- Writing an operand other than the immediate completes, and changes data alone. -/
theorem opndWrite_dataOnly {x : Operand} (hx : x ≠ .imm8) (v : Byte) (s : State) :
    ∃ t, opndWrite x v s = .next t ∧ DataOnly s t := by
  obtain ⟨r, -, h⟩ | ⟨p, -, h⟩ | ⟨h, -⟩ := opndWrite_cases x v s
  · exact ⟨_, h, (DataOnly.refl s).setReg r v⟩
  · exact ⟨_, h, (DataOnly.refl s).writeByte _ v⟩
  · exact absurd h hx

theorem stepOperand_dataOnly {x : Operand} (hx : x ≠ .imm8) (g : Byte → StepResult) (s : State) :
    ∃ t, stepOperand g x s = .next t ∧ DataOnly s t := by
  obtain ⟨u, hu, hd⟩ := opndWrite_dataOnly hx (g (opndRead x s)).res s
  exact ⟨_, by simp only [stepOperand, hu, andThen_of_next]; rfl, hd.setZNH _ _ _⟩

theorem rlcOperand_dataOnly {x : Operand} (hx : x ≠ .imm8) (s : State) :
    ∃ t, rlcOperand x s = .next t ∧ DataOnly s t := by
  obtain ⟨u, hu, hd⟩ := opndWrite_dataOnly hx (aluRlc (opndRead x s)).res s
  exact ⟨_, by simp only [rlcOperand, hu, andThen_of_next]; rfl, hd.setFlags _⟩

theorem eq_halt_of_shape {i : Instr} (h : i.shape = .halt) : i = .halt := by
  cases i <;> cases h
  rfl

/-- The three things executing an instruction can do. -/
theorem exec_cases (i : Instr) (s : State) :
    (i = .halt ∧ exec i s = .next (s.enterHalt .haltOpcode)) ∨
    (i ≠ .halt ∧ ∃ t, exec i s = .next t ∧ DataOnly s t) ∨
    (∃ op ext, i.shape = .unknown op ext ∧ s.unknownPolicy = .strict ∧
      exec i s = .fault (.unknownOpcode op ext s.pc)) := by
  by_cases hi : i = .halt
  · subst hi
    exact .inl ⟨rfl, rfl⟩
  refine .inr ?_
  cases h : i.shape with
  | nop => exact .inl ⟨hi, s, exec_nop h, .refl s⟩
  | halt => exact absurd (eq_halt_of_shape h) hi
  | alu op src =>
    refine .inl ⟨hi, ?_⟩
    rw [exec_alu h]
    split
    · exact ⟨_, rfl, (DataOnly.refl s).setFlags _⟩
    · exact ⟨_, rfl, ((DataOnly.refl s).setReg .a _).setFlags _⟩
  | inc x => exact .inl ⟨hi, exec_inc h ▸ stepOperand_dataOnly (updated_ne_imm8 (.inl h)) aluInc s⟩
  | dec x => exact .inl ⟨hi, exec_dec h ▸ stepOperand_dataOnly (updated_ne_imm8 (.inr (.inl h))) aluDec s⟩
  | rlc x => exact .inl ⟨hi, exec_rlc h ▸ rlcOperand_dataOnly (updated_ne_imm8 (.inr (.inr h))) s⟩
  | ld dst src => exact .inl ⟨hi, exec_ld h ▸ opndWrite_dataOnly (loaded_ne_imm8 h) (opndRead src s) s⟩
  | unknown op ext =>
    cases hp : s.unknownPolicy with
    | strict => exact .inr ⟨op, ext, rfl, rfl, by rw [exec_unknown h, unmapped, hp]; rfl⟩
    | permissive => exact .inl ⟨hi, s, by rw [exec_unknown h, unmapped, hp], .refl s⟩

/-- A next state of `exec`: Halted for HALT, and a change of data alone for every other instruction. -/
theorem exec_next {i : Instr} {s t : State} (h : exec i s = .next t) :
    (i = .halt ∧ t = s.enterHalt .haltOpcode) ∨ (i ≠ .halt ∧ DataOnly s t) := by
  obtain ⟨hi, he⟩ | ⟨hi, u, he, hd⟩ | ⟨_, _, -, -, he⟩ := exec_cases i s <;> rw [he] at h <;> cases h
  · exact .inl ⟨hi, rfl⟩
  · exact .inr ⟨hi, hd⟩

theorem exec_ne_refused (i : Instr) (s : State) (e : Refusal) : exec i s ≠ .refused e := by
  obtain ⟨-, he⟩ | ⟨-, _, he, -⟩ | ⟨_, _, -, -, he⟩ := exec_cases i s <;> rw [he] <;> exact nofun

theorem step_ne_refused (s : State) (e : Refusal) : step s ≠ .refused e := by
  cases hh : s.halted with
  | true => rw [step_halted hh]; exact nofun
  | false =>
    rw [step_running hh]
    cases he : exec s.fetchDecode.instr s with
    | next u => exact nofun
    | fault f => exact nofun
    | refused f => exact absurd he (exec_ne_refused _ _ f)

/-! ### The advance of pc (40_step.md R125) -/

theorem State.advance_halted (s : State) (len : Nat) :
    (s.advance len).halted = true ↔ s.halted = true ∨ 65535 < s.pc.toNat + len := by
  unfold State.advance
  cases hh : s.halted <;> by_cases hn : 65535 < s.pc.toNat + len <;> simp [hn]

theorem State.advance_haltReason (s : State) (len : Nat) :
    (s.advance len).haltReason =
      if 65535 < s.pc.toNat + len ∧ s.halted = false then .pcOverflow else s.haltReason := by
  unfold State.advance
  dsimp only
  split <;> rfl

/-- Entering Halted sets `halted` and a reason together, so it keeps R30's relation of the two. -/
theorem State.Inv.enterHalt {s : State} (h : s.Inv) {why : HaltReason} (hw : why ≠ .none) : (s.enterHalt why).Inv :=
  ⟨h.1, by simp [hw]⟩

theorem State.Inv.advance {s : State} (h : s.Inv) (len : Nat) : (s.advance len).Inv := by
  have hpc : ({ s with pc := wrap16 (s.pc.toNat + len) } : State).Inv := h
  unfold State.advance
  dsimp only
  split
  · exact hpc.enterHalt nofun
  · exact hpc

/-- Settles O43: `exec` keeps the invariant in each of its cases, and the advance keeps it after it. -/
theorem stepKeepsInvariant : Obligations.StepKeepsInvariant := by
  intro s t hs h
  obtain ⟨-, rfl⟩ | ⟨-, u, hu, rfl⟩ := step_next h
  · exact hs
  · refine State.Inv.advance ?_ _
    obtain ⟨-, rfl⟩ | ⟨-, hd⟩ := exec_next hu
    · exact hs.enterHalt nofun
    · exact hd.inv hs

/-- Settles O40: pc and the run state after a step, by whether the instruction is HALT. -/
theorem pcMovesOnlyByTheAdvance : Obligations.PcMovesOnlyByTheAdvance := by
  intro s t hs h
  obtain ⟨hs', -⟩ | ⟨-, u, hu, rfl⟩ := step_next h
  · simp [hs] at hs'
  simp only [State.advance_pc, wrap16_toNat, State.advance_haltReason, ← Bool.not_eq_true, State.advance_halted]
  obtain ⟨hi, rfl⟩ | ⟨hi, hd⟩ := exec_next hu
  · simp [hi]
  · rw [hd.pc, hd.halted, hd.haltReason]
    simp +contextual [hi, hs]

/-! ### What no run changes -/

theorem step_unknownPolicy {s t : State} (h : step s = .next t) : t.unknownPolicy = s.unknownPolicy := by
  obtain ⟨-, rfl⟩ | ⟨-, u, hu, rfl⟩ := step_next h
  · rfl
  · obtain ⟨-, rfl⟩ | ⟨-, hd⟩ := exec_next hu
    · simp
    · simpa using hd.unknownPolicy

@[simp] theorem HostAction.apply_unknownPolicy (x : HostAction) (s : State) :
    (x.apply s).unknownPolicy = s.unknownPolicy := by
  cases x <;> simp [HostAction.apply]

@[simp] theorem HostAction.apply_halted (x : HostAction) (s : State) : (x.apply s).halted = s.halted := by
  cases x <;> simp [HostAction.apply]

@[simp] theorem HostAction.apply_haltReason (x : HostAction) (s : State) : (x.apply s).haltReason = s.haltReason := by
  cases x <;> simp [HostAction.apply]

/-- Settles O45, by induction on the events: each step and each host write keeps the policy, and no step is refused. -/
theorem policyIsFixedForTheRun : Obligations.PolicyIsFixedForTheRun := by
  intro es
  induction es with
  | nil =>
    intro s
    cases hh : s.halted <;> simp [run, hh]
  | cons e es ih =>
    intro s
    cases e with
    | host x =>
      have hx := ih (x.apply s)
      rwa [HostAction.apply_unknownPolicy] at hx
    | step =>
      cases hstep : step s with
      | next t =>
        have ht := ih t
        rw [step_unknownPolicy hstep] at ht
        simpa only [run, hstep] using ht
      | fault f => simp only [run, hstep]
      | refused f => exact absurd hstep (step_ne_refused s f)

/-- A halted core's run of any events ends final, halted for the same reason. -/
theorem run_halted (es : List Event) {s : State} (hs : s.halted = true) :
    ∃ t, run es s = .final t ∧ t.halted = true ∧ t.haltReason = s.haltReason := by
  induction es generalizing s with
  | nil => exact ⟨s, by simp [run, hs], hs, rfl⟩
  | cons e es ih =>
    cases e with
    | host x => simpa [run] using ih (s := x.apply s) (by simpa using hs)
    | step => simpa [run, step_halted hs] using ih hs

theorem run_steps_halted (n : Nat) {s : State} (hs : s.halted = true) : run (List.replicate n .step) s = .final s := by
  induction n with
  | zero => simp [run, hs]
  | succ n ih => simpa [List.replicate_succ, run, step_halted hs] using ih

/-- Settles O46: the step of a halted core is a no-op, and no host write touches the run state. -/
theorem haltedIsTerminal : Obligations.HaltedIsTerminal :=
  ⟨fun es _ hs => run_halted es hs, fun n _ hs => run_steps_halted n hs⟩

/-! ### What the old flags feed (10_state.md R27) -/

/-- The flags an instruction of a shape leaves when the flags before it are `f` instead: `left` where it writes all four
itself, C of `f` where it writes but Z, N and H, and `f` where it writes none. -/
def flagsLeft : Shape → (f left : Flags) → Flags
  | .alu _ _, _, left => left
  | .rlc _, _, left => left
  | .inc _, f, left => { left with c := f.c }
  | .dec _, f, left => { left with c := f.c }
  | .nop, f, _ => f
  | .halt, f, _ => f
  | .ld _ _, f, _ => f
  | .unknown _ _, f, _ => f

@[simp] theorem State.setFlags_setFlags (s : State) (f g : Flags) : (s.setFlags f).setFlags g = s.setFlags g := rfl

@[simp] theorem State.setFlags_self (s : State) : s.setFlags s.regs.flags = s := rfl

theorem State.setFlags_setReg (s : State) (f : Flags) (r : Reg) (v : Byte) :
    (s.setFlags f).setReg r v = (s.setReg r v).setFlags f := by cases r <;> rfl

@[simp] theorem State.setFlags_pair (s : State) (f : Flags) (p : AddrPair) :
    (s.setFlags f).pair p.toPair = s.pair p.toPair := by cases p <;> rfl

/-- No operand source is a flag. -/
@[simp] theorem opndRead_setFlags (x : Operand) (f : Flags) (s : State) : opndRead x (s.setFlags f) = opndRead x s := by
  cases x with
  | reg r => exact s.setFlags_reg f r
  | imm8 => rfl
  | ind p => simp [opndRead, State.readByte]

theorem opndWrite_setFlags {x : Operand} {v : Byte} {s t : State} (f : Flags) (h : opndWrite x v s = .next t) :
    opndWrite x v (s.setFlags f) = .next (t.setFlags f) := by
  cases x with
  | reg r => cases h; simp only [opndWrite, State.setFlags_setReg]
  | imm8 => cases h
  | ind p => cases h; simp only [opndWrite, State.setFlags_pair]; rfl

/-- INC and DEC take C from the flags before them, and nothing else. -/
theorem stepOperand_setFlags {g : Byte → StepResult} {x : Operand} {s t : State} (f : Flags)
    (h : stepOperand g x s = .next t) :
    stepOperand g x (s.setFlags f) = .next (t.setFlags { t.regs.flags with c := f.c }) := by
  obtain ⟨u, hu, ht⟩ := andThen_next h
  cases ht
  simp only [stepOperand, opndRead_setFlags, opndWrite_setFlags f hu, andThen_of_next]
  rfl

theorem rlcOperand_setFlags {x : Operand} {s t : State} (f : Flags) (h : rlcOperand x s = .next t) :
    rlcOperand x (s.setFlags f) = .next t := by
  obtain ⟨u, hu, ht⟩ := andThen_next h
  cases ht
  simp only [rlcOperand, opndRead_setFlags, opndWrite_setFlags f hu, andThen_of_next, State.setFlags_setFlags]

/-- The ALU functions of the operations but ADC and SBC take no carry-in. -/
theorem aluFn_ignores_carry {op : AluOp} (hc : op ≠ .adc) (hb : op ≠ .sbc) (a v : Byte) (c d : Bool) :
    aluFn op a v c = aluFn op a v d := by
  cases op with
  | adc => exact absurd rfl hc
  | sbc => exact absurd rfl hb
  | _ => rfl

theorem accWrite_setFlags {g : Byte → Byte → Bool → AluResult} (hg : ∀ a v c d, g a v c = g a v d) (src : Operand)
    (f : Flags) (s : State) : accWrite g src (s.setFlags f) = accWrite g src s := by
  simp only [accWrite, State.setFlags_reg, opndRead_setFlags, State.setFlags_setReg, State.setFlags_setFlags]
  rw [hg _ _ _ s.regs.flags.c]

theorem accCompare_setFlags {g : Byte → Byte → Bool → AluResult} (hg : ∀ a v c d, g a v c = g a v d) (src : Operand)
    (f : Flags) (s : State) : accCompare g src (s.setFlags f) = accCompare g src s := by
  simp only [accCompare, State.setFlags_reg, opndRead_setFlags, State.setFlags_setFlags]
  rw [hg _ _ _ s.regs.flags.c]

/-- Executing with other flags gives the same state but for the flags the instruction does not write. -/
theorem exec_setFlags {i : Instr} {s t : State} (f : Flags)
    (hi : ∀ src, i.shape ≠ .alu .adc src ∧ i.shape ≠ .alu .sbc src) (ht : exec i s = .next t) :
    exec i (s.setFlags f) = .next (t.setFlags (flagsLeft i.shape f t.regs.flags)) := by
  cases h : i.shape with
  | nop =>
    rw [exec_nop h] at ht ⊢
    cases ht
    rfl
  | halt =>
    rw [exec_halt h] at ht ⊢
    cases ht
    rfl
  | alu op src =>
    have hg := aluFn_ignores_carry (op := op) (by rintro rfl; exact (hi src).1 h) (by rintro rfl; exact (hi src).2 h)
    rw [exec_alu h] at ht ⊢
    rw [accWrite_setFlags hg, accCompare_setFlags hg, ht]
    rfl
  | inc x =>
    rw [exec_inc h] at ht ⊢
    exact stepOperand_setFlags f ht
  | dec x =>
    rw [exec_dec h] at ht ⊢
    exact stepOperand_setFlags f ht
  | rlc x =>
    rw [exec_rlc h] at ht ⊢
    exact rlcOperand_setFlags f ht
  | ld dst src =>
    rw [exec_ld h] at ht ⊢
    rw [loadOperand, opndRead_setFlags]
    exact opndWrite_setFlags f ht
  | unknown op ext =>
    rw [exec_unknown h] at ht ⊢
    rw [unmapped, State.setFlags_unknownPolicy]
    rw [unmapped] at ht
    cases hp : s.unknownPolicy with
    | strict => simp only [hp, raise] at ht; cases ht
    | permissive => simp only [hp] at ht; cases ht; rfl

/-- Settles O36: the state reached from other flags is the old one with `flagsLeft`, which is the old flags but for the
flags the instruction does not write. -/
theorem flagsFeedOnlyAdcAndSbc : Obligations.FlagsFeedOnlyAdcAndSbc := by
  intro i s t f hi ht
  refine ⟨_, exec_setFlags f hi ht, fun r => by simp, rfl, rfl, rfl, rfl, ?_, ?_⟩
  · rintro (⟨op, src, h⟩ | ⟨x, h⟩) <;> simp [h, flagsLeft]
  · rintro (⟨x, h⟩ | ⟨x, h⟩) <;> simp [h, flagsLeft]

/-! ### Bulk writes and the boot (20_memory.md R77, 70_reset_and_hazards.md R345) -/

theorem Memory.read_writeAll_outside (m : Memory) {a b : Nat} (vs : List Byte) (h : b < a ∨ a + vs.length ≤ b) :
    Memory.read (Memory.writeAll m a vs) b = Memory.read m b := by
  induction vs generalizing m a with
  | nil => rfl
  | cons v vs ih =>
    rw [List.length_cons] at h
    rw [Memory.writeAll, ih _ (by omega), Memory.read_write_other m v (by omega)]

theorem Memory.read_writeAll_inside {m : Memory} {a : Nat} (vs : List Byte) (hm : m.wf = true)
    (ha : a + vs.length ≤ Config.memorySize) (k : Nat) (hk : k < vs.length) :
    Memory.read (Memory.writeAll m a vs) (a + k) = vs[k] := by
  induction vs generalizing m a k with
  | nil => cases hk
  | cons v vs ih =>
    rw [List.length_cons] at ha
    cases k with
    | zero =>
      rw [Memory.writeAll, Memory.read_writeAll_outside _ vs (by omega)]
      exact Memory.read_write_same a v hm
    | succ k =>
      have hv := ih (Memory.wf_write (a := a) v hm (by omega)) (a := a + 1) (by omega) k (Nat.lt_of_succ_lt_succ hk)
      rwa [show a + 1 + k = a + (k + 1) by omega] at hv

/-- Settles O51: the boot is a bulk write at 0 into the empty memory of the created core. -/
theorem bootLoadsTheImageAtZero : Obligations.BootLoadsTheImageAtZero := by
  intro init policy image
  refine ⟨fun hlen => ?_, fun hlen => ?_⟩
  · have hfit : 0 + image.length ≤ Config.memorySize := by simpa [Config.memorySize] using hlen
    refine ⟨_, if_pos hfit, rfl, rfl, rfl, rfl, rfl, ⟨Memory.wf_writeAll image rfl hfit, by simp [State.create]⟩, ?_, ?_⟩
    · intro k hk
      have haddr : (BitVec.ofNat 16 k).toNat = 0 + k := by
        rw [BitVec.toNat_ofNat, Nat.mod_eq_of_lt (by omega), Nat.zero_add]
      rw [State.readByte, haddr]
      exact Memory.read_writeAll_inside image rfl hfit k hk
    · intro a ha
      exact Memory.read_writeAll_outside [] image (.inr (by omega))
  · exact if_neg (by simpa [Config.memorySize] using hlen)

/-- Settles O52: the reset state field by field; every address of the empty memory reads as an unwritten byte. -/
theorem resetStateMeetsInvariant : Obligations.ResetStateMeetsInvariant :=
  ⟨⟨State.reset_mem_wf, by decide⟩, rfl, rfl, rfl, fun _ => rfl, fun r => by cases r <;> rfl, rfl, rfl⟩

/-! ### The pair views (10_state.md R22 to R25) -/

theorem cat_toNat (hi lo : Byte) : (cat hi lo).toNat = hi.toNat * 256 + lo.toNat := by
  rw [cat, BitVec.toNat_append, ← Nat.shiftLeft_add_eq_or_of_lt lo.isLt, Nat.shiftLeft_eq]

theorem Flags.byte_toNat (f : Flags) :
    f.byte.toNat = f.c.toNat * 16 + f.h.toNat * 32 + f.n.toNat * 64 + f.z.toNat * 128 := by
  obtain ⟨z, n, h, c⟩ := f
  revert z n h c
  decide

/-- Settles O9: a pair is its two bytes in a row, and the low byte of AF is the sum of the flags' weights. -/
theorem pairReadsHighByteFirst : Obligations.PairReadsHighByteFirst := fun s =>
  ⟨cat_toNat _ _, cat_toNat _ _, cat_toNat _ _, by
    rw [State.pair, cat_toNat, Flags.byte_toNat]
    simp only [State.reg]
    omega⟩

theorem cat_hiByte_loByte (v : Word) : cat (hiByte v) (loByte v) = v :=
  BitVec.extractLsb'_append_extractLsb' (w := 8) (len := 8)

/-- The flags of a byte keep its bits 7 to 4. -/
theorem Flags.byte_ofByte (b : Byte) : (Flags.ofByte b).byte = b &&& 0xF0 := by
  revert b
  decide

/-- Clearing bits 3 to 0 of a word clears them in its low byte. -/
theorem cat_and_fff0 (hi lo : Byte) : cat hi (lo &&& 0xF0) = cat hi lo &&& 0xFFF0 := by
  have hmask : (0xFFF0 : Word) = 0xFF#8 ++ 0xF0#8 := rfl
  rw [cat, cat, hmask, BitVec.and_append]
  congr 1
  exact BitVec.and_allOnes.symm

theorem State.setPair_pair (s : State) {p : Pair} (hp : p ≠ .af) (v : Word) : (s.setPair p v).pair p = v := by
  cases p with
  | af => exact absurd rfl hp
  | bc => exact cat_hiByte_loByte v
  | de => exact cat_hiByte_loByte v
  | hl => exact cat_hiByte_loByte v

theorem State.setPair_af_pair (s : State) (v : Word) : (s.setPair .af v).pair .af = v &&& 0xFFF0 :=
  calc (s.setPair .af v).pair .af
    _ = cat (hiByte v) (Flags.ofByte (loByte v)).byte := rfl
    _ = cat (hiByte v) (loByte v &&& 0xF0) := by rw [Flags.byte_ofByte]
    _ = v &&& 0xFFF0 := by rw [cat_and_fff0, cat_hiByte_loByte]

theorem State.setPair_flags (s : State) {p : Pair} (hp : p ≠ .af) (v : Word) :
    (s.setPair p v).regs.flags = s.regs.flags := by
  cases p with
  | af => exact absurd rfl hp
  | bc => rfl
  | de => rfl
  | hl => rfl

/-- Settles O10: a pair's write is two register writes, or for AF a register write and the flags. -/
theorem pairWriteThenRead : Obligations.PairWriteThenRead := by
  intro s v
  refine ⟨⟨rfl, rfl⟩, ⟨rfl, rfl⟩, ⟨rfl, rfl⟩, ⟨rfl, ?_⟩, s.setPair_pair (p := .bc) nofun v,
    s.setPair_pair (p := .de) nofun v, s.setPair_pair (p := .hl) nofun v, s.setPair_af_pair v, ?_, ?_, ?_, ?_,
    fun p hp => s.setPair_flags hp v, fun p => ⟨by simp, by simp, by simp, by simp⟩⟩
  · simp [State.setPair, Flags.ofByte, loByte]
  · intro r hb hc
    rw [State.setPair, State.setReg_reg_other _ _ hc, State.setReg_reg_other _ _ hb]
  · intro r hd he
    rw [State.setPair, State.setReg_reg_other _ _ he, State.setReg_reg_other _ _ hd]
  · intro r hh hl
    rw [State.setPair, State.setReg_reg_other _ _ hl, State.setReg_reg_other _ _ hh]
  · intro r ha
    rw [State.setPair, State.setFlags_reg, State.setReg_reg_other _ _ ha]

end Sys2Proof.Machine
end

section
/-! The statements of 20_memory.md, settled over one rule for each operation that can store: an operand's write changes the
byte at `storeAddr` and no other, and every other update leaves each byte as it was. -/

namespace Sys2Proof.Machine

/-! ### The byte write and the bulk load (20_memory.md R62, R77) -/

/-- Settles O11: memory is canonical, so the written byte reads back. -/
theorem memWriteSetsOneByte : Obligations.MemWriteSetsOneByte := fun s a v hm =>
  ⟨State.readByte_writeByte_same a v hm, fun _ hb => s.readByte_writeByte_other v hb, rfl, rfl, rfl, rfl, rfl⟩

/-- Settles O15: a load is a bulk write, made only where it fits. -/
theorem bulkLoadWritesItsBytes : Obligations.BulkLoadWritesItsBytes := by
  intro offset bytes s hm
  refine ⟨fun hfit => ?_, fun hpast => if_neg (Nat.not_le.mpr hpast)⟩
  exact ⟨_, if_pos hfit, Memory.wf_writeAll bytes hm hfit, Memory.read_writeAll_inside bytes hm hfit,
    fun _ ha => Memory.read_writeAll_outside s.mem bytes ha, rfl, rfl, rfl, rfl, rfl⟩

/-! ### What leaves every byte as it was -/

@[simp] theorem State.setReg_readByte (s : State) (r : Reg) (v : Byte) (a : Word) :
    (s.setReg r v).readByte a = s.readByte a := rfl
@[simp] theorem State.setFlags_readByte (s : State) (f : Flags) (a : Word) :
    (s.setFlags f).readByte a = s.readByte a := rfl
@[simp] theorem State.setZNH_readByte (s : State) (z n h : Bool) (a : Word) :
    (s.setZNH z n h).readByte a = s.readByte a := rfl
@[simp] theorem State.enterHalt_readByte (s : State) (why : HaltReason) (a : Word) :
    (s.enterHalt why).readByte a = s.readByte a := rfl
@[simp] theorem State.advance_readByte (s : State) (len : Nat) (a : Word) :
    (s.advance len).readByte a = s.readByte a := by
  rw [State.readByte, State.advance_mem, State.readByte]

/-! ### Where an instruction stores (40_step.md R124, R132) -/

section Stores

variable {i : Instr} {x : Operand} {v : Byte} {a : Word} {s t : State}

theorem instrStoreAddr_of_dest (h : destOperand i.shape = some x) : instrStoreAddr i s = storeAddr x s := by
  rw [instrStoreAddr, h, Option.bind_some]

theorem opndWrite_readByte_other (h : opndWrite x v s = .next t) (ha : storeAddr x s ≠ some a) :
    t.readByte a = s.readByte a := by
  cases x with
  | reg r => cases h; rfl
  | imm8 => cases h
  | ind p =>
    cases h
    exact s.readByte_writeByte_other v fun e => ha (congrArg some e.symm)

theorem stepOperand_readByte_other {g : Byte → StepResult} (h : stepOperand g x s = .next t)
    (ha : storeAddr x s ≠ some a) : t.readByte a = s.readByte a := by
  obtain ⟨u, hu, ht⟩ := andThen_next h
  cases ht
  rw [State.setZNH_readByte, opndWrite_readByte_other hu ha]

theorem rlcOperand_readByte_other (h : rlcOperand x s = .next t) (ha : storeAddr x s ≠ some a) :
    t.readByte a = s.readByte a := by
  obtain ⟨u, hu, ht⟩ := andThen_next h
  cases ht
  rw [State.setFlags_readByte, opndWrite_readByte_other hu ha]

theorem unmapped_next {op : Byte} {ext : Option Byte} (h : unmapped op ext s = .next t) : t = s := by
  rw [unmapped] at h
  cases hp : s.unknownPolicy with
  | strict => simp only [hp, raise] at h; cases h
  | permissive => simp only [hp] at h; cases h; rfl

/-- Executing an instruction changes no byte but the one at its store address. -/
theorem exec_readByte_other (h : exec i s = .next t) (ha : instrStoreAddr i s ≠ some a) :
    t.readByte a = s.readByte a := by
  cases hi : i.shape with
  | nop => rw [exec_nop hi] at h; cases h; rfl
  | halt => rw [exec_halt hi] at h; cases h; rfl
  | alu op src =>
    rw [exec_alu hi] at h
    split at h <;> cases h <;> rfl
  | inc x =>
    rw [exec_inc hi] at h
    exact stepOperand_readByte_other h (instrStoreAddr_of_dest (by rw [hi]; rfl) ▸ ha)
  | dec x =>
    rw [exec_dec hi] at h
    exact stepOperand_readByte_other h (instrStoreAddr_of_dest (by rw [hi]; rfl) ▸ ha)
  | rlc x =>
    rw [exec_rlc hi] at h
    exact rlcOperand_readByte_other h (instrStoreAddr_of_dest (by rw [hi]; rfl) ▸ ha)
  | ld dst src =>
    rw [exec_ld hi] at h
    exact opndWrite_readByte_other h (instrStoreAddr_of_dest (by rw [hi]; rfl) ▸ ha)
  | unknown op ext =>
    rw [exec_unknown hi] at h
    rw [unmapped_next h]

end Stores

/-- Settles O41: a halted core's step is a no-op, and the advance after `exec` touches no byte. -/
theorem stepStoresOnlyAtItsDestination : Obligations.StepStoresOnlyAtItsDestination := by
  intro s t h
  obtain ⟨-, rfl⟩ | ⟨hs, u, hu, rfl⟩ := step_next h
  · exact ⟨fun _ _ => rfl, fun _ _ => rfl⟩
  · refine ⟨fun a ha => ?_, fun hh => absurd (hs.symm.trans hh) Bool.false_ne_true⟩
    rw [State.advance_readByte, exec_readByte_other hu ha]

/-! ### What the bytes of a fetched instruction are (30_encoding.md R98, R99) -/

/-- Byte 0 of the encoding of a decoded instruction is the byte it was decoded from (30_encoding.md R98). -/
theorem decode_opcode (b0 b1 : Byte) : (decode b0 b1).instr.opcode = b0 := by
  have hbase : ∀ b : Byte, (decodeBase b).instr.opcode = b := by decide
  have hpage : ∀ b : Byte, (decodeCB b).instr.opcode = 0xCB := by decide
  obtain ⟨h0, h⟩ | ⟨-, h⟩ := decode_cases b0 b1
  · rw [h, hpage, h0]
  · rw [h, hbase]

/-- Byte 1 of the encoding of a CB-page instruction is the byte it was decoded from (30_encoding.md R99). -/
theorem decodeCB_extended (b1 : Byte) : (decodeCB b1).instr.shape.extended = some b1 := by
  revert b1
  decide

theorem State.fetchDecode_opcode (s : State) : s.fetchDecode.instr.opcode = s.readByte s.pc := decode_opcode _ _

theorem nextAddr_eq (a : Word) : nextAddr a = BitVec.ofNat 16 ((a.toNat + 1) % 65536) :=
  BitVec.eq_of_toNat_eq (by rw [nextAddr, wrap16_toNat, BitVec.toNat_ofNat, Nat.mod_mod])

/-- RLC (HL) is fetched only as the bytes 0xCB 0x06. -/
theorem readByte_nextAddr_of_rlcIndHL {s : State} (h : s.fetchDecode.instr = .rlcIndHL) :
    s.readByte (nextAddr s.pc) = 0x06 := by
  have hpage : s.readByte s.pc = 0xCB := by rw [← s.fetchDecode_opcode, h]; rfl
  rw [State.fetchDecode, hpage, decode_page] at h
  have hext := decodeCB_extended (s.readByte (nextAddr s.pc))
  rw [h] at hext
  exact (Option.some.inj hext).symm

/-! ### Stores over the instruction stream (20_memory.md R66, R74) -/

theorem step_of_exec {s u : State} (hs : s.halted = false) (hu : exec s.fetchDecode.instr s = .next u) :
    step s = .next (u.advance s.fetchDecode.len) := by
  rw [step_running hs, hu, andThen_of_next]

/-- What the fetched instruction leaves at an address is there after the step, since the advance touches no byte. -/
theorem step_readByte_of_exec {i : Instr} {s : State} {a : Word} {v : Byte} (hs : s.halted = false)
    (hi : s.fetchDecode.instr = i) (h : ∃ u, exec i s = .next u ∧ u.readByte a = v) :
    ∃ t, step s = .next t ∧ t.readByte a = v := by
  obtain ⟨u, hu, hv⟩ := h
  exact ⟨_, step_of_exec hs (hi ▸ hu), by rw [State.advance_readByte, hv]⟩

/-- Settles O49: the advance lands on the stored byte. -/
theorem storeIsSeenByTheNextFetch : Obligations.StoreIsSeenByTheNextFetch := by
  intro s p src hs hm hi hp
  obtain ⟨t, ht, hv⟩ := step_readByte_of_exec hs rfl
    ⟨_, exec_ld hi, State.readByte_writeByte_same (s.pair p.toPair) (opndRead src s) hm⟩
  obtain ⟨hadv, -⟩ := pcMovesOnlyByTheAdvance s t hs ht
  have hpc : t.pc = s.pair p.toPair := by
    rw [hp]
    exact BitVec.eq_of_toNat_eq (by rw [hadv, BitVec.toNat_ofNat, Nat.mod_mod])
  exact ⟨t, ht, by rw [hpc, hv], hpc, by rw [State.fetchDecode, hpc, hv]⟩

theorem stepOperand_readByte_same (g : Byte → StepResult) (p : AddrPair) {s : State} (hm : s.mem.wf = true) :
    ∃ t, stepOperand g (.ind p) s = .next t ∧
      t.readByte (s.pair p.toPair) = (g (s.readByte (s.pair p.toPair))).res :=
  ⟨_, rfl, State.readByte_writeByte_same _ _ hm⟩

theorem rlcOperand_readByte_same (p : AddrPair) {s : State} (hm : s.mem.wf = true) :
    ∃ t, rlcOperand (.ind p) s = .next t ∧
      t.readByte (s.pair p.toPair) = (aluRlc (s.readByte (s.pair p.toPair))).res :=
  ⟨_, rfl, State.readByte_writeByte_same _ _ hm⟩

theorem aluInc_res_toNat (v : Byte) : (aluInc v).res.toNat = (v.toNat + 1) % 256 := wrap8_toNat _

theorem aluDec_res_toNat (v : Byte) : (aluDec v).res.toNat = (v.toNat + 255) % 256 := by
  have h := ofInt_toNat ((v.toNat : Int) - 1)
  change (BitVec.ofInt 8 ((v.toNat : Int) - 1)).toNat = _
  omega

theorem aluRlc_res (v : Byte) : (aluRlc v).res = v.rotateLeft 1 := by
  revert v
  decide

/-- Settles O50: the operand is read before it is written, and the fetched instruction fixes the byte that stood in its own
place. -/
theorem instructionMayOverwriteItself : Obligations.InstructionMayOverwriteItself := by
  intro s hs hm
  refine ⟨fun hi => ?_, fun hi => ?_, fun hi => ?_⟩
  · obtain ⟨t, ht, hv⟩ := step_readByte_of_exec hs hi (stepOperand_readByte_same aluInc .hl hm)
    simp only [AddrPair.toPair] at hv
    refine ⟨t, ht, by rw [hv, aluInc_res_toNat], fun hp => ?_⟩
    have hop : s.readByte (s.pair .hl) = 0x34 := by rw [hp, ← s.fetchDecode_opcode, hi]; rfl
    rw [← hp, hv, hop]
    rfl
  · obtain ⟨t, ht, hv⟩ := step_readByte_of_exec hs hi (stepOperand_readByte_same aluDec .hl hm)
    simp only [AddrPair.toPair] at hv
    refine ⟨t, ht, by rw [hv, aluDec_res_toNat], fun hp => ?_⟩
    have hop : s.readByte (s.pair .hl) = 0x35 := by rw [hp, ← s.fetchDecode_opcode, hi]; rfl
    rw [← hp, hv, hop]
    rfl
  · obtain ⟨t, ht, hv⟩ := step_readByte_of_exec hs hi (rlcOperand_readByte_same .hl hm)
    simp only [AddrPair.toPair] at hv
    refine ⟨t, ht, by rw [hv, aluRlc_res], fun hp => ?_⟩
    have hext : s.readByte (s.pair .hl) = 0x06 := by
      rw [hp, ← nextAddr_eq]
      exact readByte_nextAddr_of_rlcIndHL hi
    rw [hv, hext]
    rfl

end Sys2Proof.Machine
end

section
/-! The statements of 30_encoding.md. The map's two presentations, the decoder and the encoder, are joined by three facts about
an instruction's bytes: its opcode, its extended opcode and its length. Whatever ranges over bytes is asked of each page by
itself, of one byte. -/

namespace Sys2Proof

open Machine

/-! ### The formats (30_encoding.md R93, R95) -/

/-- An instruction has an extended opcode exactly on the CB page. -/
theorem Instr.extended_isSome (i : Instr) : i.shape.extended.isSome = i.shape.onCBPage := by
  cases i <;> rfl

/-- No instruction of the CB page has an immediate. -/
theorem Instr.not_onCBPage_and_hasImm8 (i : Instr) :
    ¬ (i.shape.onCBPage = true ∧ i.shape.hasImm8 = true) := by
  cases i <;> exact nofun

theorem Instr.len_of_extended_some {i : Instr} {ext : Byte} (h : i.shape.extended = some ext) : i.len = 2 := by
  have hpage : i.shape.onCBPage = true := by rw [← i.extended_isSome, h, Option.isSome_some]
  have himm : ¬ i.shape.hasImm8 = true := fun him => i.not_onCBPage_and_hasImm8 ⟨hpage, him⟩
  rw [Instr.len, Shape.len, if_pos hpage, if_neg himm]

theorem Instr.len_of_extended_none {i : Instr} (h : i.shape.extended = none) :
    i.len = if i.shape.hasImm8 then 2 else 1 := by
  have hpage : i.shape.onCBPage = false := by rw [← i.extended_isSome, h, Option.isSome_none]
  rw [Instr.len, Shape.len, hpage]
  cases i.shape.hasImm8 <;> rfl

/-- One byte, with no extended opcode, or two. -/
theorem Instr.len_cases (i : Instr) : (i.len = 1 ∧ i.shape.extended = none) ∨ i.len = 2 := by
  cases hx : i.shape.extended with
  | some ext => exact .inr (Instr.len_of_extended_some hx)
  | none =>
    rw [Instr.len_of_extended_none hx]
    cases i.shape.hasImm8 with
    | true => exact .inr rfl
    | false => exact .inl ⟨rfl, rfl⟩

/-- An instruction's bytes are the first `len` of its opcode and its second byte, the extended opcode or the immediate. -/
theorem encode_eq_take (i : Instr) (d8 : Byte) :
    encode i d8 = [i.opcode, i.shape.extended.getD d8].take i.len := by
  cases hx : i.shape.extended with
  | some ext =>
    rw [encode, hx, Instr.len_of_extended_some hx]
    rfl
  | none =>
    rw [encode, hx, Instr.len_of_extended_none hx]
    cases i.shape.hasImm8 <;> rfl

/-- The immediate counts only where an operand source is the immediate. -/
theorem encode_congr {i : Instr} {v d8 : Byte} (h : i.shape.hasImm8 = true → v = d8) : encode i v = encode i d8 := by
  cases hi : i.shape.hasImm8 with
  | true => rw [h hi]
  | false => simp [encode, hi]

/-! ### The decoder on unmapped bytes (30_encoding.md R99, R100) -/

theorem page_notMem_unmappedOpcodes : (0xCB : Byte) ∉ unmappedOpcodes := by decide

theorem decode_of_unmapped {op : Byte} (b1 : Byte) (h : op ∈ unmappedOpcodes) : decode op b1 = ⟨.unknown op, 1⟩ := by
  have hbase : ∀ b ∈ unmappedOpcodes, decodeBase b = ⟨.unknown b, 1⟩ := List.map_inj_left.mp rfl
  rw [decode_base b1 (ne_of_mem_of_not_mem h page_notMem_unmappedOpcodes), hbase op h]

theorem decodeCB_of_unmapped {ext : Byte} (h : 8 ≤ ext.toNat) : decodeCB ext = ⟨.unknownCB ext, 2⟩ := by
  have hpage : ∀ b : Byte, 8 ≤ b.toNat → decodeCB b = ⟨.unknownCB b, 2⟩ := by decide
  exact hpage ext h

theorem Instr.unknown_wellFormed {op : Byte} : (Instr.unknown op).WellFormed ↔ op ∈ unmappedOpcodes :=
  List.contains_iff_mem

theorem Instr.unknownCB_wellFormed {ext : Byte} : (Instr.unknownCB ext).WellFormed ↔ 8 ≤ ext.toNat :=
  decide_eq_true_iff

/-! ### Decode after encode -/

/-- The two bytes of a well-formed instruction decode to it; `b` stands where no extended opcode does. -/
theorem decode_opcode_extended {i : Instr} (h : i.WellFormed) (b : Byte) :
    decode i.opcode (i.shape.extended.getD b) = ⟨i, i.len⟩ := by
  cases i with
  | unknown op => exact decode_of_unmapped b (Instr.unknown_wellFormed.mp h)
  | unknownCB ext => exact decodeCB_of_unmapped (Instr.unknownCB_wellFormed.mp h)
  | _ =>
    dsimp only [Instr.shape, Shape.extended, Option.getD]
    rfl

theorem decodeBytes_of_len_one {b0 : Byte} {d : Decoded} (h : ∀ b1, decode b0 b1 = d) (hlen : d.len = 1)
    (rest : List Byte) : decodeBytes (b0 :: rest) = .ok d rest := by
  cases rest <;> simp [decodeBytes, h, hlen]

theorem decodeBytes_of_len_two {b0 b1 : Byte} {d : Decoded} (h : decode b0 b1 = d) (hlen : d.len = 2)
    (rest : List Byte) : decodeBytes (b0 :: b1 :: rest) = .ok d rest := by
  simp [decodeBytes, h, hlen]

/-- Settles O1: by the length of the encoding. -/
theorem decodeEncodeRoundTrip : Obligations.DecodeEncodeRoundTrip := by
  intro i d8 rest hi
  rw [encode_eq_take]
  obtain ⟨hlen, hext⟩ | hlen := i.len_cases
  · have hd (b1 : Byte) : decode i.opcode b1 = ⟨i, i.len⟩ := by
      have h := decode_opcode_extended hi b1
      rwa [hext] at h
    rw [hlen] at hd ⊢
    exact decodeBytes_of_len_one hd rfl rest
  · have hd := decode_opcode_extended hi d8
    rw [hlen] at hd ⊢
    exact decodeBytes_of_len_two hd rfl rest

/-! ### Encode after decode -/

theorem decode_wellFormed (b0 b1 : Byte) : (decode b0 b1).instr.WellFormed := by
  have hbase : ∀ b : Byte, b ≠ 0xCB → (decodeBase b).instr.WellFormed := by decide
  have hpage : ∀ b : Byte, (decodeCB b).instr.WellFormed := by decide
  obtain ⟨-, h⟩ | ⟨hne, h⟩ := decode_cases b0 b1 <;> rw [h]
  · exact hpage b1
  · exact hbase b0 hne

theorem decode_len (b0 b1 : Byte) : (decode b0 b1).len = (decode b0 b1).instr.len := by
  have hbase : ∀ b : Byte, (decodeBase b).len = (decodeBase b).instr.len := by decide
  have hpage : ∀ b : Byte, (decodeCB b).len = (decodeCB b).instr.len := by decide
  obtain ⟨-, h⟩ | ⟨-, h⟩ := decode_cases b0 b1 <;> rw [h]
  · exact hpage b1
  · exact hbase b0

/-- Where a decoded instruction has an extended opcode, it is the second byte. -/
theorem decode_extended_getD (b0 b1 : Byte) : (decode b0 b1).instr.shape.extended.getD b1 = b1 := by
  have hbase : ∀ b : Byte, (decodeBase b).instr.shape.extended = none := by decide
  obtain ⟨-, h⟩ | ⟨-, h⟩ := decode_cases b0 b1
  · rw [h, decodeCB_extended, Option.getD_some]
  · rw [h, hbase, Option.getD_none]

/-- Settles O2: opcode, second byte and length of the decoded instruction are those of the bytes. -/
theorem encodeOfDecodedBytes : Obligations.EncodeOfDecodedBytes := fun b0 b1 =>
  ⟨decode_wellFormed b0 b1, decode_len b0 b1, by
    rw [encode_eq_take, decode_opcode, decode_extended_getD, decode_len]⟩

/-! ### The fields (30_encoding.md R91, R92, R97) -/

theorem rSel_eq_indHL {f : BitVec 3} : rSel f = .indHL ↔ f = 0b110 := by
  revert f
  decide

theorem ldOf_shape (x y : RSel) :
    (ldOf x y).shape = if x = .indHL ∧ y = .indHL then .halt else .ld x.operand y.operand := by
  cases x <;> cases y <;> rfl

theorem aluOf_shape (op : AluOp) (y : RSel) : (aluOf op y).shape = .alu op y.operand := by
  cases op <;> cases y <;> rfl

theorem aluImmOf_shape (op : AluOp) : (aluImmOf op).shape = .alu op .imm8 := by
  cases op <;> rfl

theorem incOf_shape (x : RSel) : (incOf x).shape = .inc x.operand := by
  cases x <;> rfl

theorem decOf_shape (x : RSel) : (decOf x).shape = .dec x.operand := by
  cases x <;> rfl

theorem ldImmOf_shape (x : RSel) : (ldImmOf x).shape = .ld x.operand .imm8 := by
  cases x <;> rfl

theorem rlcOf_shape (x : RSel) : (rlcOf x).shape = .rlc x.operand := by
  cases x <;> rfl

/-- The arm a word of the base page takes gives what it decodes to, whatever byte follows. -/
theorem decode_instr_of_base {b0 : Byte} {i : Instr} (h : b0 ≠ 0xCB ∧ (decodeBase b0).instr = i) (b1 : Byte) :
    (decode b0 b1).instr = i := by
  rw [decode_base b1 h.1, h.2]

section Arms

variable (f g : BitVec 3) (b1 : Byte)

theorem decode_01_fields : (decode (0b01#2 ++ f ++ g) b1).instr = ldOf (rSel f) (rSel g) :=
  decode_instr_of_base (by revert f g; decide) b1

theorem decode_10_fields : (decode (0b10#2 ++ f ++ g) b1).instr = aluOf (aluSel f) (rSel g) :=
  decode_instr_of_base (by revert f g; decide) b1

theorem decode_11_field_110 : (decode (0b11#2 ++ f ++ 0b110#3) b1).instr = aluImmOf (aluSel f) :=
  decode_instr_of_base (by revert f; decide) b1

theorem decode_00_field_100 : (decode (0b00#2 ++ f ++ 0b100#3) b1).instr = incOf (rSel f) :=
  decode_instr_of_base (by revert f; decide) b1

theorem decode_00_field_101 : (decode (0b00#2 ++ f ++ 0b101#3) b1).instr = decOf (rSel f) :=
  decode_instr_of_base (by revert f; decide) b1

theorem decode_00_field_110 : (decode (0b00#2 ++ f ++ 0b110#3) b1).instr = ldImmOf (rSel f) :=
  decode_instr_of_base (by revert f; decide) b1

theorem decode_page_00000_field : (decode 0xCB (0b00000#5 ++ g)).instr = rlcOf (rSel g) := by
  revert g
  decide

end Arms

/-- Settles O4: each arm of the decoder, then the shapes its table gives. -/
theorem fieldsSelectOperationAndOperands : Obligations.FieldsSelectOperationAndOperands := by
  intro f g b1
  refine ⟨?_, ?_, ?_, ?_, ?_, ?_, ?_⟩
  · simp only [decode_01_fields, ldOf_shape, rSel_eq_indHL]
  · rw [decode_10_fields, aluOf_shape]
  · rw [decode_11_field_110, aluImmOf_shape]
  · rw [decode_00_field_100, incOf_shape]
  · rw [decode_00_field_101, decOf_shape]
  · rw [decode_00_field_110, ldImmOf_shape]
  · rw [decode_page_00000_field, rlcOf_shape]

/-! ### The length from byte 0 (30_encoding.md R95) -/

theorem decode_len_of_byte0 (b0 b1 : Byte) :
    (decode b0 b1).len = if b0 = 0xCB ∨ b0 &&& 0xC7 = 0x06 ∨ b0 &&& 0xC7 = 0xC6 then 2 else 1 := by
  have hbase : ∀ b : Byte, b ≠ 0xCB →
      (decodeBase b).len = if b = 0xCB ∨ b &&& 0xC7 = 0x06 ∨ b &&& 0xC7 = 0xC6 then 2 else 1 := by decide
  obtain ⟨h0, h⟩ | ⟨hne, h⟩ := decode_cases b0 b1
  · rw [h, if_pos (.inl h0), decodeCB]
    split <;> rfl
  · rw [h, hbase b0 hne]

/-- Settles O5: the decoder reports the instruction's own length, and the step's advance is by it. -/
theorem lengthRule : Obligations.LengthRule := by
  refine ⟨fun b0 b1 => ⟨decode_len b0 b1, Instr.not_onCBPage_and_hasImm8 _, decode_len_of_byte0 b0 b1⟩, ?_⟩
  intro s t hs h
  exact (pcMovesOnlyByTheAdvance s t hs h).1

/-! ### The unmapped encodings (30_encoding.md R100) -/

/-- The two kinds of unmapped encoding. -/
theorem Instr.eq_unknown_of_shape {i : Instr} {op : Byte} {ext : Option Byte} (h : i.shape = .unknown op ext) :
    i = .unknown op ∨ ∃ e, i = .unknownCB e := by
  cases i <;> cases h
  · exact .inl rfl
  · exact .inr ⟨_, rfl⟩

/-- Bytes that decode as an unmapped encoding are unmapped bytes. -/
theorem unmapped_of_decode_unknown {b0 b1 op : Byte} {ext : Option Byte}
    (h : (decode b0 b1).instr.shape = .unknown op ext) :
    b0 ∈ unmappedOpcodes ∨ b0 = 0xCB ∧ 8 ≤ b1.toNat := by
  have hw := decode_wellFormed b0 b1
  have hop := decode_opcode b0 b1
  have hext := decode_extended_getD b0 b1
  obtain hi | ⟨e, hi⟩ := Instr.eq_unknown_of_shape h <;> rw [hi] at hw hop hext
  · have hb : op = b0 := hop
    exact .inl (hb ▸ Instr.unknown_wellFormed.mp hw)
  · have he : e = b1 := hext
    exact .inr ⟨hop.symm, he ▸ Instr.unknownCB_wellFormed.mp hw⟩

/-- Settles O6: what decodes as unknown is well formed, so its byte is unmapped, and an unmapped byte takes no other arm. -/
theorem unmappedEncodingsDecodeAsUnknown : Obligations.UnmappedEncodingsDecodeAsUnknown := by
  refine ⟨fun b0 b1 => ⟨decode_of_unmapped b1, fun h => ?_⟩, fun b1 => ⟨decodeCB_of_unmapped, fun h => ?_⟩,
    fun b0 b1 hb hne op ext h => ?_, fun b1 hb op ext h => ?_, by decide, rfl, rfl⟩
  · have hw := decode_wellFormed b0 b1
    rw [h] at hw
    exact Instr.unknown_wellFormed.mp hw
  · have hw := decode_wellFormed 0xCB b1
    rw [h] at hw
    exact Instr.unknownCB_wellFormed.mp hw
  · obtain hmem | ⟨hpage, -⟩ := unmapped_of_decode_unknown h
    · exact hb hmem
    · exact hne hpage
  · obtain hmem | ⟨-, hle⟩ := unmapped_of_decode_unknown h
    · exact page_notMem_unmappedOpcodes hmem
    · omega

/-! ### No write through the immediate (30_encoding.md R102) -/

theorem destOperand_ne_imm8 {i : Instr} {x : Operand} (h : destOperand i.shape = some x) : x ≠ .imm8 := by
  cases hi : i.shape with
  | nop => rw [hi] at h; cases h
  | halt => rw [hi] at h; cases h
  | alu op src => rw [hi] at h; cases op <;> cases h <;> exact nofun
  | inc y => rw [hi] at h; cases h; exact updated_ne_imm8 (.inl hi)
  | dec y => rw [hi] at h; cases h; exact updated_ne_imm8 (.inr (.inl hi))
  | rlc y => rw [hi] at h; cases h; exact updated_ne_imm8 (.inr (.inr hi))
  | ld dst src => rw [hi] at h; cases h; exact loaded_ne_imm8 hi
  | unknown op ext => rw [hi] at h; cases h

/-- Settles O7: the only error `exec` raises is UnknownOpcode. -/
theorem noInstructionWritesTheImmediate : Obligations.NoInstructionWritesTheImmediate := by
  refine ⟨fun i x => destOperand_ne_imm8, fun i s a => ?_⟩
  obtain ⟨-, he⟩ | ⟨-, _, he, -⟩ | ⟨_, _, -, -, he⟩ := exec_cases i s <;> rw [he] <;> exact nofun

/-! ### The assembler (30_encoding.md R103, R104) -/

/-- The value read beside an operand: the immediate's, and 0 for a named one. -/
def Operand.valueRead (x : Operand) (d8 : Byte) : Byte := if x.isImm8 then d8 else 0

theorem Operand.isImm8_iff {x : Operand} : x.isImm8 = true ↔ x = .imm8 := by
  cases x <;> simp [Operand.isImm8]

theorem Operand.valueRead_of_isImm8 {x : Operand} {d8 : Byte} (h : x.isImm8 = true) : x.valueRead d8 = d8 := if_pos h

theorem readOperand_text (x : Operand) (d8 : Byte) : readOperand (x.text d8) = some (x, x.valueRead d8) := by
  cases x with
  | reg r => cases r <;> rfl
  | imm8 => revert d8; decide
  | ind p => cases p <;> rfl

theorem cutCommas_of_notMem {w : List Char} (h : ',' ∉ w) : cutCommas w = [w] := by
  induction w with
  | nil => rfl
  | cons c w ih =>
    obtain ⟨hc, hw⟩ := not_or.mp (mt List.mem_cons.mpr h)
    rw [cutCommas, if_neg (Ne.symm hc), ih hw]

theorem cutCommas_append {w : List Char} (h : ',' ∉ w) (rest : List Char) :
    cutCommas (w ++ ',' :: rest) = w :: cutCommas rest := by
  induction w with
  | nil => rfl
  | cons c w ih =>
    obtain ⟨hc, hw⟩ := not_or.mp (mt List.mem_cons.mpr h)
    rw [List.cons_append, cutCommas, if_neg (Ne.symm hc), ih hw]

theorem comma_notMem_text (x : Operand) (d8 : Byte) : ',' ∉ x.text d8 := by
  cases x with
  | reg r => cases r <;> simp [Operand.text, Reg.text]
  | imm8 => revert d8; decide
  | ind p => cases p <;> simp [Operand.text, AddrPair.text]

theorem readOperands_one (x : Operand) (d8 : Byte) :
    readOperands (' ' :: x.text d8) = some [(x, x.valueRead d8)] := by
  simp [readOperands, cutCommas_of_notMem (comma_notMem_text x d8), readOperand_text]

theorem readOperands_two (x y : Operand) (d8 : Byte) :
    readOperands (' ' :: (x.text d8 ++ ',' :: y.text d8)) = some [(x, x.valueRead d8), (y, y.valueRead d8)] := by
  simp [readOperands, cutCommas_append (comma_notMem_text x d8), cutCommas_of_notMem (comma_notMem_text y d8),
    readOperand_text]

/-- Every shape of a mapped instruction names it. -/
theorem instrOf_shape {i : Instr} (h : ∀ op ext, i.shape ≠ .unknown op ext) : instrOf i.shape = some i := by
  cases i with
  | unknown op => exact absurd rfl (h op none)
  | unknownCB ext => exact absurd rfl (h 0xCB (some ext))
  | _ => rfl

/-- A line assembles to an instruction's bytes when its mnemonic and operands read as the instruction's shape, with its
immediate where it has one. -/
theorem assemble_of_readShape {i : Instr} {f : Shape} {m rest : List Char} {ops : List (Operand × Byte)} {v d8 : Byte}
    (hi : i.shape = f) (hmapped : ∀ op ext, i.shape ≠ .unknown op ext) (hm : ' ' ∉ m)
    (hops : readOperands (' ' :: rest) = some ops) (hf : readShape m ops = some (f, v))
    (hv : f.hasImm8 = true → v = d8) : assemble (m ++ ' ' :: rest) = some (encode i d8) := by
  subst hi
  have hne : ∀ c ∈ m, decide (c ≠ ' ') = true := fun c hc => decide_eq_true (ne_of_mem_of_not_mem hc hm)
  have htake : (m ++ ' ' :: rest).takeWhile (· ≠ ' ') = m := by
    rw [List.takeWhile_append_of_pos hne, List.takeWhile_cons_of_neg (by decide), List.append_nil]
  have hdrop : (m ++ ' ' :: rest).dropWhile (· ≠ ' ') = ' ' :: rest := by
    rw [List.dropWhile_append_of_pos hne, List.dropWhile_cons_of_neg (by decide)]
  rw [assemble, htake, hdrop, hops, Option.bind_some, hf, Option.bind_some, instrOf_shape hmapped, Option.map_some,
    encode_congr hv]

theorem AluOp.space_notMem_text (op : AluOp) : ' ' ∉ op.text := by
  cases op <;> decide

/-- `A,s` is read after every ALU mnemonic. -/
theorem readShape_alu_withA (op : AluOp) (x : Operand) (u v : Byte) :
    readShape op.text [(.reg .a, u), (x, v)] = some (.alu op x, v) := by
  cases op <;> rfl

theorem readShape_alu {op : AluOp} (h : op.namesA = false) (x : Operand) (v : Byte) :
    readShape op.text [(x, v)] = some (.alu op x, v) := by
  cases op <;> cases h <;> rfl

/-- Only an unmapped encoding has no text. -/
theorem Shape.text_eq_none {f : Shape} {d8 : Byte} : f.text d8 = none ↔ ∃ op ext, f = .unknown op ext := by
  cases f <;> simp [Shape.text]

/-- Settles O8: by the shape, the line's mnemonic and operands read back as that shape. -/
theorem assemblerInvertsText : Obligations.AssemblerInvertsText := by
  intro i d8
  refine ⟨fun line h => ?_, Shape.text_eq_none⟩
  have hmapped : ∀ op ext, i.shape ≠ .unknown op ext := fun op ext hi => by
    rw [Shape.text_eq_none.mpr ⟨op, ext, hi⟩] at h
    cases h
  have hinstr := instrOf_shape hmapped
  cases hi : i.shape with
  | nop =>
    rw [hi] at h hinstr
    cases h
    cases hinstr
    rfl
  | halt =>
    rw [hi] at h hinstr
    cases h
    cases hinstr
    rfl
  | alu op src =>
    rw [hi, Shape.text] at h
    cases hA : op.namesA with
    | true =>
      simp only [hA, if_true, Option.some.injEq] at h
      subst h
      simpa [Operand.text, Reg.text] using assemble_of_readShape hi hmapped op.space_notMem_text
        (readOperands_two (.reg .a) src d8) (readShape_alu_withA op src _ _) Operand.valueRead_of_isImm8
    | false =>
      simp only [hA, Option.some.injEq] at h
      subst h
      simpa using assemble_of_readShape hi hmapped op.space_notMem_text (readOperands_one src d8)
        (readShape_alu hA src _) Operand.valueRead_of_isImm8
  | inc x =>
    rw [hi] at h
    cases h
    exact assemble_of_readShape (m := ['I', 'N', 'C']) hi hmapped (by decide) (readOperands_one x d8) rfl
      Operand.valueRead_of_isImm8
  | dec x =>
    rw [hi] at h
    cases h
    exact assemble_of_readShape (m := ['D', 'E', 'C']) hi hmapped (by decide) (readOperands_one x d8) rfl
      Operand.valueRead_of_isImm8
  | rlc x =>
    rw [hi] at h
    cases h
    exact assemble_of_readShape (m := ['R', 'L', 'C']) hi hmapped (by decide) (readOperands_one x d8) rfl
      Operand.valueRead_of_isImm8
  | ld dst src =>
    rw [hi] at h
    cases h
    have hv : (Shape.ld dst src).hasImm8 = true → src.valueRead d8 = d8 := fun himm => by
      obtain hdst | hsrc := (Bool.or_eq_true _ _).mp himm
      · exact absurd (Operand.isImm8_iff.mp hdst) (loaded_ne_imm8 hi)
      · exact Operand.valueRead_of_isImm8 hsrc
    simpa using assemble_of_readShape (m := ['L', 'D']) hi hmapped (by decide) (readOperands_two dst src d8) rfl hv
  | unknown op ext => exact absurd hi (hmapped op ext)

/-! ### Words of the source (95_test_vectors.md V1) -/

/-- Settles O3: the decoder runs on each word. -/
theorem specWordsDecode : Obligations.SpecWordsDecode :=
  ⟨rfl, rfl, rfl, rfl, rfl, rfl, rfl, rfl, rfl, rfl, rfl, rfl, rfl⟩

end Sys2Proof
end

section
/-! The statements of 40_step.md: the operand multiplexer, the step, the advance and the host contract. A step's error is the
error of the instruction it runs, and a run's error is the error of its last step. -/

namespace Sys2Proof.Machine

/-! ### The operand multiplexer (40_step.md R130 to R134) -/

/-- Settles O12: the immediate's address is the address after pc. -/
theorem operandReadForms : Obligations.OperandReadForms := by
  intro s
  refine ⟨fun _ => rfl, ?_, fun hpc => ?_, rfl, rfl, rfl⟩
  · rw [← nextAddr_eq]
    rfl
  · rw [opndRead, State.immAddr, hpc]
    rfl

/-- Settles O13: each form of the write is an arm of `opndWrite`. -/
theorem operandWriteForms : Obligations.OperandWriteForms := fun _ _ =>
  ⟨fun _ => rfl, rfl, rfl, rfl, rfl, rfl⟩

@[simp] theorem State.writeByte_pair (s : State) (a : Word) (v : Byte) (p : Pair) :
    (s.writeByte a v).pair p = s.pair p := State.pair_of_regs (s.writeByte_regs a v) p

/-- Settles O14: a store leaves the pair it goes through, so the read after it is at the same address. -/
theorem operandWriteThenRead : Obligations.OperandWriteThenRead := by
  intro s x v hm hx
  cases x with
  | reg r => exact ⟨_, rfl, s.setReg_reg_same r v⟩
  | imm8 => exact absurd rfl hx
  | ind p =>
    refine ⟨_, rfl, ?_⟩
    rw [opndRead, State.writeByte_pair]
    exact State.readByte_writeByte_same _ v hm

/-! ### The advance and the step (40_step.md R120 to R127) -/

/-- Settles O39: pc wraps, and only a running core that passes 0xFFFF enters Halted. -/
theorem advanceWrapsAndHaltsAtTheTop : Obligations.AdvanceWrapsAndHaltsAtTheTop := by
  intro s len
  refine ⟨by rw [State.advance_pc, wrap16_toNat], fun h => ⟨?_, ?_⟩, fun h => ⟨?_, ?_⟩, s.advance_regs len,
    s.advance_mem len, s.advance_unknownPolicy len⟩
  · exact (s.advance_halted len).mpr (.inr h.1)
  · rw [State.advance_haltReason, if_pos h]
  · rw [Bool.eq_iff_iff, State.advance_halted]
    refine ⟨fun hor => hor.elim id fun htop => ?_, .inl⟩
    exact Bool.eq_true_of_not_eq_false fun hs => h ⟨htop, hs⟩
  · rw [State.advance_haltReason, if_neg h]

/-- Settles O38: the step tests `halted` before it fetches. -/
theorem haltedStepIsNoop : Obligations.HaltedStepIsNoop := fun _ => step_halted

/-- Bytes that start with the encoding of a well-formed instruction decode to it. -/
theorem decode_of_take_eq_encode {i : Instr} {b0 b1 d8 : Byte} (hi : i.WellFormed)
    (h : [b0, b1].take i.len = encode i d8) : decode b0 b1 = ⟨i, i.len⟩ := by
  have hd := decodeEncodeRoundTrip i d8 ([b0, b1].drop i.len) hi
  rw [← h, List.take_append_drop] at hd
  exact (DecodeResult.ok.inj hd).1

/-- The step of a running core by the bytes it fetches, with the second byte's address as R122 writes it. -/
theorem step_of_decode {s : State} {i : Instr} {len : Nat} (hs : s.halted = false)
    (hd : decode (s.readByte s.pc) (s.readByte (BitVec.ofNat 16 ((s.pc.toNat + 1) % 65536))) = ⟨i, len⟩) :
    step s = Result.andThen (exec i s) fun t => .next (t.advance len) := by
  rw [← nextAddr_eq] at hd
  rw [step_running hs, State.fetchDecode, hd]

/-- Settles O37: the step goes on from what executing gives, in each of its outcomes. -/
theorem stepRunsTheDecodedInstruction : Obligations.StepRunsTheDecodedInstruction := by
  refine ⟨fun s i len hs hd => ⟨fun t he => ?_, fun e he => ?_, fun e he => ?_⟩, fun s t i d8 hs hi hb he => ?_⟩
  · rw [step_of_decode hs hd, he, andThen_of_next]
  · rw [step_of_decode hs hd, he, Result.andThen]
  · rw [step_of_decode hs hd, he, Result.andThen]
  · rw [step_of_decode hs (decode_of_take_eq_encode hi hb), he, andThen_of_next]

/-! ### The errors of a step (60_exceptions.md R300 to R307) -/

/-- The only error of `exec` is that of an unmapped encoding under the strict policy. -/
theorem exec_fault_iff {i : Instr} {s : State} {e : Fault} :
    exec i s = .fault e ↔
      s.unknownPolicy = .strict ∧ ∃ op ext, i.shape = .unknown op ext ∧ e = .unknownOpcode op ext s.pc := by
  constructor
  · intro h
    obtain ⟨-, he⟩ | ⟨-, _, he, -⟩ | ⟨op, ext, hi, hp, he⟩ := exec_cases i s <;> rw [he] at h <;> cases h
    exact ⟨hp, op, ext, hi, rfl⟩
  · rintro ⟨hp, op, ext, hi, rfl⟩
    rw [exec_unknown hi, unmapped, hp]
    rfl

/-- A step raises an error exactly where a running core's instruction does. -/
theorem step_fault_iff {s : State} {e : Fault} :
    step s = .fault e ↔ s.halted = false ∧ exec s.fetchDecode.instr s = .fault e := by
  cases hs : s.halted with
  | true => simp [step_halted hs]
  | false =>
    rw [step_running hs]
    cases exec s.fetchDecode.instr s <;> simp [Result.andThen]

/-- A step of a permissive core completes. -/
theorem step_of_permissive {s : State} (hp : s.unknownPolicy = .permissive) : ∃ t, step s = .next t := by
  cases h : step s with
  | next t => exact ⟨t, rfl⟩
  | fault e =>
    obtain ⟨-, he⟩ := step_fault_iff.mp h
    obtain ⟨hstrict, -⟩ := exec_fault_iff.mp he
    rw [hp] at hstrict
    cases hstrict
  | refused e => exact absurd h (step_ne_refused s e)

/-- Settles O42: the step's error is `exec`'s, and `exec` never refuses. -/
theorem stepErrorsAreExactlyUnknownOpcodeInStrictMode : Obligations.StepErrorsAreExactlyUnknownOpcodeInStrictMode :=
  fun s => ⟨fun _ => by rw [step_fault_iff, exec_fault_iff], step_ne_refused s, step_of_permissive⟩

/-! ### Host writes (40_step.md R141) -/

/-- The only host write to memory is one byte. -/
theorem HostAction.wf_apply (x : HostAction) {s : State} (hm : s.mem.wf = true) : (x.apply s).mem.wf = true := by
  cases x with
  | setByte a v => exact State.wf_writeByte a v hm
  | setPair p v => rwa [HostAction.apply, State.setPair_mem]
  | setFlag f b => rwa [HostAction.apply, State.setFlag_mem]
  | setReg r v => exact hm
  | setPc a => exact hm

theorem State.Inv.apply {s : State} (h : s.Inv) (x : HostAction) : (x.apply s).Inv := by
  obtain ⟨hm, hr⟩ := h
  exact ⟨x.wf_apply hm, by rwa [HostAction.apply_haltReason, HostAction.apply_halted]⟩

/-- AF reads back without bits 3 to 0, every other pair as written (10_state.md R23, R24). -/
theorem State.setPair_pair_eq (s : State) (p : Pair) (v : Word) :
    (s.setPair p v).pair p = if p = .af then v &&& 0xFFF0 else v := by
  split
  case isTrue hp => rw [hp, State.setPair_af_pair]
  case isFalse hp => exact s.setPair_pair hp v

/-- Settles O44: no host write touches the run state or the policy, and each reads back by the rule of its own write. -/
theorem hostWritesKeepInvariantAndRunState : Obligations.HostWritesKeepInvariantAndRunState := by
  intro x s
  refine ⟨x.apply_halted s, x.apply_haltReason s, x.apply_unknownPolicy s, fun h => h.apply x, ?_, ?_, ?_, ?_, ?_, ?_,
    ?_, ?_⟩
  · rintro r v rfl
    exact s.setReg_reg_same r v
  · rintro a rfl
    rfl
  · rintro a v rfl hm
    exact State.readByte_writeByte_same a v hm
  · rintro p v rfl
    exact s.setPair_pair_eq p v
  all_goals
    rintro b rfl
    rfl

/-! ### The ends of a run (40_step.md R142) -/

/-- The state of a faulted run is the one whose step raised the error. -/
theorem step_of_run_faulted {es : List Event} {s t : State} {e : Fault} (h : run es s = .faulted e t) :
    step t = .fault e := by
  induction es generalizing s with
  | nil => cases hs : s.halted <;> simp [run, hs] at h
  | cons ev es ih =>
    cases ev with
    | host x => exact ih h
    | step =>
      cases hstep : step s with
      | next u =>
        rw [run, hstep] at h
        exact ih h
      | fault f =>
        rw [run, hstep] at h
        cases h
        exact hstep
      | refused f => exact absurd hstep (step_ne_refused s f)

/-- Settles O47: the last step's error, by the two causes it can have. -/
theorem faultedRunKeepsTheStateBeforeTheFault : Obligations.FaultedRunKeepsTheStateBeforeTheFault := by
  intro es s t e h
  have hstep := step_of_run_faulted h
  obtain ⟨hs, he⟩ := step_fault_iff.mp hstep
  obtain ⟨hp, hunknown⟩ := exec_fault_iff.mp he
  exact ⟨hs, hp, hstep, hunknown⟩

theorem State.fetchDecode_len_pos (s : State) : 1 ≤ s.fetchDecode.len := by
  rw [State.fetchDecode, decode_len]
  obtain ⟨h, -⟩ | h := (decode (s.readByte s.pc) (s.readByte (nextAddr s.pc))).instr.len_cases <;> omega

/-- A step of a running core that does not stop it moves pc up, with no wrap. -/
theorem pc_lt_of_step_running {s t : State} (hs : s.halted = false) (ht : t.halted = false) (h : step s = .next t) :
    s.pc.toNat < t.pc.toNat := by
  obtain ⟨hpc, hhalt, -⟩ := pcMovesOnlyByTheAdvance s t hs h
  have htop : ¬ 65535 < s.pc.toNat + s.fetchDecode.len := fun hover => by
    rw [hhalt.mpr (.inr hover)] at ht
    cases ht
  have hlen := s.fetchDecode_len_pos
  omega

/-- A run of steps long enough for pc to reach the top ends: pc rises with each step that leaves the core running. -/
theorem run_steps_ends (n : Nat) {s : State} (hn : Config.memorySize ≤ s.pc.toNat + n) :
    (∃ t, run (List.replicate n .step) s = .final t) ∨ ∃ e t, run (List.replicate n .step) s = .faulted e t := by
  induction n generalizing s with
  | zero => exact absurd s.pc.isLt (Nat.not_lt.mpr hn)
  | succ n ih =>
    rw [List.replicate_succ]
    cases hs : s.halted with
    | true => exact .inl ⟨s, run_steps_halted (n + 1) hs⟩
    | false =>
      cases hstep : step s with
      | next t =>
        rw [run, hstep]
        cases ht : t.halted with
        | true => exact .inl ⟨t, run_steps_halted n ht⟩
        | false =>
          have hpc := pc_lt_of_step_running hs ht hstep
          exact ih (by omega)
      | fault e => exact .inr ⟨e, s, by rw [run, hstep]⟩
      | refused e => exact absurd hstep (step_ne_refused s e)

/-- Settles O48: the run ends, and it faults only under the strict policy, which it cannot enter. -/
theorem runsWithoutHostEndWithin65536Steps : Obligations.RunsWithoutHostEndWithin65536Steps := by
  intro n s hn
  refine ⟨run_steps_ends n hn, fun hp => ?_⟩
  obtain hfinal | ⟨e, t, hfault⟩ := run_steps_ends n hn
  · exact hfinal
  · have hkeeps := policyIsFixedForTheRun (List.replicate n .step) s
    rw [hfault] at hkeeps
    obtain ⟨-, hstrict, -⟩ := faultedRunKeepsTheStateBeforeTheFault _ _ _ _ hfault
    rw [hkeeps, hp] at hstrict
    cases hstrict

end Sys2Proof.Machine
end

section
/-! The statements of 41_alu8.md. What an accumulator operation leaves is said once for all eight: its ALU function's result
in A (CP keeps A) and its flags. Each ALU function's result and flags are then said over exact integers. -/

namespace Sys2Proof.Machine

/-! ### The ALU functions (41_alu8.md R153 to R181) -/

section AluFunctions

variable (a v : Byte) (cin : Bool)

theorem aluAdd_res_toNat : (aluAdd a v).res.toNat = (a.toNat + v.toNat) % 256 := wrap8_toNat _

theorem aluAdd_flags : (aluAdd a v).flags =
    { z := decide ((a.toNat + v.toNat) % 256 = 0), n := false, h := decide (a.toNat % 16 + v.toNat % 16 > 15),
      c := decide (a.toNat + v.toNat > 255) } := by
  simp only [aluAdd, wrap8_eq_zero_iff, lowNibble_eq]

theorem aluAdc_res_toNat : (aluAdc a v cin).res.toNat = (a.toNat + v.toNat + cin.toNat) % 256 := wrap8_toNat _

theorem aluAdc_flags : (aluAdc a v cin).flags =
    { z := decide ((a.toNat + v.toNat + cin.toNat) % 256 = 0), n := false,
      h := decide (a.toNat % 16 + v.toNat % 16 + cin.toNat > 15), c := decide (a.toNat + v.toNat + cin.toNat > 255) } := by
  simp only [aluAdc, wrap8_eq_zero_iff, lowNibble_eq]

theorem aluSub_res_toNat : ((aluSub a v).res.toNat : Int) = ((a.toNat : Int) - v.toNat) % 256 := ofInt_toNat _

theorem aluSub_flags : (aluSub a v).flags =
    { z := decide (((a.toNat : Int) - v.toNat) % 256 = 0), n := true, h := decide (a.toNat % 16 < v.toNat % 16),
      c := decide (v.toNat > a.toNat) } := by
  simp only [aluSub, ofInt_eq_zero_iff, lowNibble_eq]

theorem aluSbc_res_toNat : ((aluSbc a v cin).res.toNat : Int) = ((a.toNat : Int) - v.toNat - cin.toNat) % 256 :=
  ofInt_toNat _

theorem aluSbc_flags : (aluSbc a v cin).flags =
    { z := decide (((a.toNat : Int) - v.toNat - cin.toNat) % 256 = 0), n := true,
      h := decide (a.toNat % 16 < v.toNat % 16 + cin.toNat), c := decide (v.toNat + cin.toNat > a.toNat) } := by
  simp only [aluSbc, ofInt_eq_zero_iff, lowNibble_eq]

end AluFunctions

/-! ### The accumulator operations (41_alu8.md R150, R169) -/

section Accumulator

variable {i : Instr} {op : AluOp} {src : Operand}

/-- What the ALU function of an operation returns for A, the operand and F.C of a state. -/
def accResult (op : AluOp) (src : Operand) (s : State) : AluResult :=
  aluFn op (s.reg .a) (opndRead src s) s.regs.flags.c

/-- Every form but CP completes, with its ALU function's result in A and its flags. -/
theorem exec_alu_of_ne_cp (h : i.shape = .alu op src) (hop : op ≠ .cp) (s : State) :
    exec i s = .next ((s.setReg .a (accResult op src s).res).setFlags (accResult op src s).flags) := by
  rw [exec_alu h, if_neg hop]
  rfl

/-- CP completes, with the flags of its ALU function and nothing else written. -/
theorem exec_alu_cp (h : i.shape = .alu .cp src) (s : State) :
    exec i s = .next (s.setFlags (accResult .cp src s).flags) := by
  rw [exec_alu h, if_pos rfl]
  rfl

/-- A form that is not CP leaves in A what its ALU function returns, and that function's flags. -/
theorem exec_alu_writes (h : i.shape = .alu op src) (hop : op ≠ .cp) (s : State) :
    ∃ t, exec i s = .next t ∧ t.reg .a = (accResult op src s).res ∧ t.regs.flags = (accResult op src s).flags :=
  ⟨_, exec_alu_of_ne_cp h hop s, by simp, by simp⟩

end Accumulator

/-! ### Each operation's result and flags, and the frame of all eight -/

/-- Settles O16: A and the flags are `aluAdd`'s. -/
theorem addWritesSumAndFlags : Obligations.AddWritesSumAndFlags := by
  intro i src s h
  obtain ⟨t, ht, ha, hf⟩ := exec_alu_writes h nofun s
  refine ⟨t, ht, ?_⟩
  rw [ha, hf, accResult, aluFn, aluAdd_flags]
  exact ⟨aluAdd_res_toNat _ _, rfl, rfl, rfl, rfl⟩

/-- Settles O17: A and the flags are `aluAdc`'s of the old F.C. -/
theorem adcWritesSumWithCarryAndFlags : Obligations.AdcWritesSumWithCarryAndFlags := by
  intro i src s h
  obtain ⟨t, ht, ha, hf⟩ := exec_alu_writes h nofun s
  refine ⟨t, ht, ?_⟩
  rw [ha, hf, accResult, aluFn, aluAdc_flags]
  exact ⟨aluAdc_res_toNat _ _ _, rfl, rfl, rfl, rfl⟩

/-- Settles O18: A and the flags are `aluSub`'s. -/
theorem subWritesDifferenceAndFlags : Obligations.SubWritesDifferenceAndFlags := by
  intro i src s h
  obtain ⟨t, ht, ha, hf⟩ := exec_alu_writes h nofun s
  refine ⟨t, ht, ?_⟩
  rw [ha, hf, accResult, aluFn, aluSub_flags]
  exact ⟨aluSub_res_toNat _ _, rfl, rfl, rfl, rfl⟩

/-- Settles O19: A and the flags are `aluSbc`'s of the old F.C. -/
theorem sbcWritesDifferenceWithBorrowAndFlags : Obligations.SbcWritesDifferenceWithBorrowAndFlags := by
  intro i src s h
  obtain ⟨t, ht, ha, hf⟩ := exec_alu_writes h nofun s
  refine ⟨t, ht, ?_⟩
  rw [ha, hf, accResult, aluFn, aluSbc_flags]
  exact ⟨aluSbc_res_toNat _ _ _, rfl, rfl, rfl, rfl⟩

/-- Settles O20: CP writes the flags of `aluSub`, and no register. -/
theorem compareKeepsAAndWritesFlags : Obligations.CompareKeepsAAndWritesFlags := by
  intro i src s h
  refine ⟨_, exec_alu_cp h s, s.setFlags_reg _ .a, ?_⟩
  rw [State.setFlags_flags, accResult, aluFn, aluSub_flags]
  exact ⟨rfl, rfl, rfl, rfl⟩

/-- Settles O21: A is the bitwise AND, and the flags are `aluAnd`'s. -/
theorem andWritesConjunctionAndFlags : Obligations.AndWritesConjunctionAndFlags := by
  intro i src s h
  obtain ⟨t, ht, ha, hf⟩ := exec_alu_writes h nofun s
  refine ⟨t, ht, ?_⟩
  rw [ha, hf]
  exact ⟨fun _ => BitVec.getLsbD_and, rfl⟩

/-- Settles O22: A is the bitwise OR, and the flags are `aluOr`'s. -/
theorem orWritesDisjunctionAndFlags : Obligations.OrWritesDisjunctionAndFlags := by
  intro i src s h
  obtain ⟨t, ht, ha, hf⟩ := exec_alu_writes h nofun s
  refine ⟨t, ht, ?_⟩
  rw [ha, hf]
  exact ⟨fun _ => BitVec.getLsbD_or, rfl⟩

/-- Settles O23: A is the bitwise XOR, and the flags are `aluXor`'s. -/
theorem xorWritesExclusiveOrAndFlags : Obligations.XorWritesExclusiveOrAndFlags := by
  intro i src s h
  obtain ⟨t, ht, ha, hf⟩ := exec_alu_writes h nofun s
  refine ⟨t, ht, ?_⟩
  rw [ha, hf]
  exact ⟨fun _ => BitVec.getLsbD_xor, rfl⟩

/-- Settles O32: an accumulator operation writes the flags, and A where it is not CP. -/
theorem accumulatorFrame : Obligations.AccumulatorFrame := by
  intro i op src s t h ht
  by_cases hop : op = .cp
  · subst hop
    rw [exec_alu_cp h] at ht
    cases ht
    exact ⟨fun r _ => s.setFlags_reg _ r, fun _ => s.setFlags_reg _ .a, s.setFlags_readByte _, rfl, rfl, rfl, rfl⟩
  · rw [exec_alu_of_ne_cp h hop] at ht
    cases ht
    refine ⟨fun r hr => ?_, fun hcp => absurd hcp hop, fun _ => rfl, rfl, rfl, rfl, rfl⟩
    rw [State.setFlags_reg, State.setReg_reg_other s _ hr]

end Sys2Proof.Machine
end

section
/-! The statements of 42_incdec.md, and the frames of all that write an operand source. An operand's write is read back
where it was made and leaves the flags and every other register; INC and DEC are that write and then Z, N and H. -/

namespace Sys2Proof.Machine

/-! ### What an operand's write leaves (40_step.md R131, R134) -/

section Writes

variable {i : Instr} {x dst src : Operand} {v : Byte} {q : Reg} {s t : State}

/-- The operand source's value after a change from `s` to `t`, read where it was in `s`: memory is read at the pair's old
value. -/
def readBack (x : Operand) (s t : State) : Nat :=
  match x with
  | .reg r => (t.reg r).toNat
  | .imm8 => 0
  | .ind p => (t.readByte (s.pair p.toPair)).toNat

theorem readBack_opndWrite (h : opndWrite x v s = .next t) (hm : s.mem.wf = true) : readBack x s t = v.toNat := by
  cases x with
  | reg r => cases h; exact congrArg BitVec.toNat (s.setReg_reg_same r v)
  | imm8 => cases h
  | ind p => cases h; exact congrArg BitVec.toNat (State.readByte_writeByte_same _ v hm)

@[simp] theorem readBack_setFlags (x : Operand) (s t : State) (f : Flags) :
    readBack x s (t.setFlags f) = readBack x s t := by
  cases x with
  | reg r => rw [readBack, State.setFlags_reg, readBack]
  | imm8 => rfl
  | ind p => rfl

theorem opndWrite_flags (h : opndWrite x v s = .next t) : t.regs.flags = s.regs.flags := by
  cases x with
  | reg r => cases h; exact s.setReg_flags r v
  | imm8 => cases h
  | ind p => cases h; rfl

theorem opndWrite_reg_other (h : opndWrite x v s = .next t) (hq : x ≠ .reg q) : t.reg q = s.reg q := by
  cases x with
  | reg r => cases h; exact s.setReg_reg_other v fun e => hq (congrArg Operand.reg e.symm)
  | imm8 => cases h
  | ind p => cases h; exact s.writeByte_reg _ v q

/-! ### What INC, DEC and RLC leave (42_incdec.md R200, 44_rotate.md R250) -/

/-- INC and DEC complete, with their function's result where the operand was, its Z, N and H, and the old C. -/
theorem stepOperand_writes (hx : x ≠ .imm8) (g : Byte → StepResult) (hm : s.mem.wf = true) :
    ∃ t, stepOperand g x s = .next t ∧ readBack x s t = (g (opndRead x s)).res.toNat ∧
      t.regs.flags =
        ⟨(g (opndRead x s)).z, (g (opndRead x s)).n, (g (opndRead x s)).h, s.regs.flags.c⟩ := by
  obtain ⟨u, hu, -⟩ := opndWrite_dataOnly hx (g (opndRead x s)).res s
  refine ⟨_, by rw [stepOperand, hu, andThen_of_next], ?_, ?_⟩
  · rw [State.setZNH, readBack_setFlags, readBack_opndWrite hu hm]
  · rw [State.setZNH_flags, opndWrite_flags hu]

theorem stepOperand_carry {g : Byte → StepResult} (h : stepOperand g x s = .next t) :
    t.regs.flags.c = s.regs.flags.c := by
  obtain ⟨u, hu, ht⟩ := andThen_next h
  cases ht
  rw [State.setZNH_flags, opndWrite_flags hu]

theorem stepOperand_reg_other {g : Byte → StepResult} (h : stepOperand g x s = .next t) (hq : x ≠ .reg q) :
    t.reg q = s.reg q := by
  obtain ⟨u, hu, ht⟩ := andThen_next h
  cases ht
  rw [State.setZNH_reg, opndWrite_reg_other hu hq]

theorem rlcOperand_reg_other (h : rlcOperand x s = .next t) (hq : x ≠ .reg q) : t.reg q = s.reg q := by
  obtain ⟨u, hu, ht⟩ := andThen_next h
  cases ht
  rw [State.setFlags_reg, opndWrite_reg_other hu hq]

/-! ### What an instruction leaves (40_step.md R124) -/

theorem exec_carry_of_inc_or_dec (ht : exec i s = .next t) (hi : i.shape = .inc x ∨ i.shape = .dec x) :
    t.regs.flags.c = s.regs.flags.c := by
  obtain hi | hi := hi
  · exact stepOperand_carry (exec_inc hi ▸ ht)
  · exact stepOperand_carry (exec_dec hi ▸ ht)

theorem exec_ld_flags (ht : exec i s = .next t) (hi : i.shape = .ld dst src) : t.regs.flags = s.regs.flags :=
  opndWrite_flags (exec_ld hi ▸ ht)

/-- Executing an instruction changes no register but its destination. -/
theorem exec_reg_other (h : exec i s = .next t) (hq : destOperand i.shape ≠ some (.reg q)) : t.reg q = s.reg q := by
  cases hi : i.shape with
  | nop => rw [exec_nop hi] at h; cases h; rfl
  | halt => rw [exec_halt hi] at h; cases h; exact s.enterHalt_reg _ q
  | alu op src =>
    obtain ⟨hother, hcp, -⟩ := accumulatorFrame i op src s t hi h
    by_cases hqa : q = .a
    · have hop : op = .cp := by
        rw [hi, hqa] at hq
        cases op with
        | cp => rfl
        | _ => exact absurd rfl hq
      exact hqa ▸ hcp hop
    · exact hother q hqa
  | inc y => exact stepOperand_reg_other (exec_inc hi ▸ h) fun e => hq (by rw [hi, destOperand, e])
  | dec y => exact stepOperand_reg_other (exec_dec hi ▸ h) fun e => hq (by rw [hi, destOperand, e])
  | rlc y => exact rlcOperand_reg_other (exec_rlc hi ▸ h) fun e => hq (by rw [hi, destOperand, e])
  | ld dst src => exact opndWrite_reg_other (exec_ld hi ▸ h) fun e => hq (by rw [hi, destOperand, e])
  | unknown op ext => rw [exec_unknown hi] at h; rw [unmapped_next h]

/-- An instruction with a destination is not HALT, so it changes data alone. -/
theorem exec_dataOnly_of_dest (h : exec i s = .next t) (hx : destOperand i.shape = some x) : DataOnly s t := by
  obtain ⟨rfl, -⟩ | ⟨-, hd⟩ := exec_next h
  · cases hx
  · exact hd

/-- INC, DEC, RLC and the loads write their operand. -/
theorem destOperand_of_write
    (hi : i.shape = .inc x ∨ i.shape = .dec x ∨ i.shape = .rlc x ∨ ∃ src, i.shape = .ld x src) :
    destOperand i.shape = some x := by
  obtain hi | hi | hi | ⟨src, hi⟩ := hi <;> rw [hi] <;> rfl

end Writes

/-! ### INC and DEC (42_incdec.md R201, R204) -/

theorem aluInc_eq (v : Byte) : aluInc v =
    { res := wrap8 (v.toNat + 1), z := decide ((v.toNat + 1) % 256 = 0), n := false,
      h := decide (v.toNat % 16 = 15) } := by
  simp only [aluInc, wrap8_eq_zero_iff, lowNibble_eq]

theorem aluDec_eq (v : Byte) : aluDec v =
    { res := BitVec.ofInt 8 ((v.toNat : Int) - 1), z := decide (((v.toNat : Int) - 1) % 256 = 0), n := true,
      h := decide (v.toNat % 16 = 0) } := by
  simp only [aluDec, ofInt_eq_zero_iff, lowNibble_eq]

/-- Settles O24: the operand and the flags are `aluInc`'s, with the old C. -/
theorem incWritesOperandPlusOne : Obligations.IncWritesOperandPlusOne := by
  intro i x s hi hm
  obtain ⟨t, ht, hres, hflags⟩ := stepOperand_writes (updated_ne_imm8 (.inl hi)) aluInc hm
  rw [aluInc_eq] at hres hflags
  exact ⟨t, (exec_inc hi).trans ht, hres.trans (wrap8_toNat _), hflags⟩

/-- Settles O25: the operand and the flags are `aluDec`'s, with the old C. -/
theorem decWritesOperandMinusOne : Obligations.DecWritesOperandMinusOne := by
  intro i x s hi hm
  obtain ⟨t, ht, hres, hflags⟩ := stepOperand_writes (updated_ne_imm8 (.inr (.inl hi))) aluDec hm
  rw [aluDec_eq] at hres hflags
  have hdiff : (readBack x s t : Int) = ((opndRead x s).toNat - 1) % 256 := by rw [hres, ofInt_toNat]
  refine ⟨t, (exec_dec hi).trans ht, ?_, hflags⟩
  cases x <;> exact hdiff

/-! ### The frames of INC, DEC, RLC and LD -/

/-- Settles O33: the destination is a register, so no address is stored to. -/
theorem registerDestinationFrame : Obligations.RegisterDestinationFrame := by
  intro i r s t ht hi
  have hdest := destOperand_of_write hi
  have hd := exec_dataOnly_of_dest ht hdest
  refine ⟨fun q hq => exec_reg_other ht ?_, exec_carry_of_inc_or_dec ht, fun ⟨_, hld⟩ => exec_ld_flags ht hld,
    fun a => exec_readByte_other ht ?_, hd.pc, hd.halted, hd.haltReason, hd.unknownPolicy⟩
  · rw [hdest]
    rintro ⟨⟩
    exact hq rfl
  · rw [instrStoreAddr_of_dest hdest]
    exact nofun

/-- Settles O34: the destination is no register, and the one address stored to is its pair's. -/
theorem memoryDestinationFrame : Obligations.MemoryDestinationFrame := by
  intro i p s t ht hi
  have hdest := destOperand_of_write hi
  have hd := exec_dataOnly_of_dest ht hdest
  refine ⟨fun q => exec_reg_other ht ?_, exec_carry_of_inc_or_dec ht, fun ⟨_, hld⟩ => exec_ld_flags ht hld,
    fun a ha => exec_readByte_other ht ?_, hd.pc, hd.halted, hd.haltReason, hd.unknownPolicy⟩
  · rw [hdest]
    exact nofun
  · rw [instrStoreAddr_of_dest hdest]
    exact fun e => ha (Option.some.inj e).symm

end Sys2Proof.Machine
end

section
/-! The statement of 43_load.md. A load is one operand's write of the value another operand reads, and a write touches no
flag. -/

namespace Sys2Proof.Machine

/-- Settles O27: what the destination's write gives is the register set to the source's value, or that value's one byte
stored. -/
theorem loadMovesSourceToDestination : Obligations.LoadMovesSourceToDestination := by
  intro i dst src s hi
  have hdst := loaded_ne_imm8 hi
  obtain ⟨t, ht, -⟩ := opndWrite_dataOnly hdst (opndRead src s) s
  refine ⟨hdst, t, (exec_ld hi).trans ht, opndWrite_flags ht, ?_, ?_⟩
  · rintro r rfl
    cases ht
    exact s.setReg_reg_same r _
  · rintro p rfl hm
    cases ht
    exact State.readByte_writeByte_same _ _ hm

end Sys2Proof.Machine
end

section
/-! The statement of 44_rotate.md. RLC is its operand's write and then all four flags; on the unsigned value the rotation
doubles the byte modulo 256 and adds the bit that left at the top. -/

namespace Sys2Proof.Machine

/-- RLC completes, with its function's result where the operand was, and its four flags. -/
theorem rlcOperand_writes {x : Operand} {s : State} (hx : x ≠ .imm8) (hm : s.mem.wf = true) :
    ∃ t, rlcOperand x s = .next t ∧ readBack x s t = (aluRlc (opndRead x s)).res.toNat ∧
      t.regs.flags = (aluRlc (opndRead x s)).flags := by
  obtain ⟨u, hu, -⟩ := opndWrite_dataOnly hx (aluRlc (opndRead x s)).res s
  refine ⟨_, by rw [rlcOperand, hu, andThen_of_next], ?_, ?_⟩
  · rw [readBack_setFlags, readBack_opndWrite hu hm]
  · rw [State.setFlags_flags]

/-! ### The function of RLC on the unsigned value (44_rotate.md R250) -/

theorem aluRlc_res_toNat (v : Byte) : (aluRlc v).res.toNat = (2 * v.toNat) % 256 + v.toNat / 128 := by
  revert v
  decide

theorem aluRlc_flags (v : Byte) : (aluRlc v).flags =
    { z := decide ((2 * v.toNat) % 256 + v.toNat / 128 = 0), n := false, h := false, c := decide (v.toNat / 128 = 1) } := by
  have hz : (aluRlc v).res = 0 ↔ (2 * v.toNat) % 256 + v.toNat / 128 = 0 := by
    rw [← aluRlc_res_toNat]
    exact BitVec.toNat_eq
  have hc : v.getLsbD 7 = decide (v.toNat / 128 = 1) := by
    rw [← BitVec.msb_eq_getLsbD_last, BitVec.msb_eq_decide, decide_eq_decide]
    omega
  rw [← hc, ← decide_eq_decide.mpr hz]
  rfl

/-- Settles O26: the operand and the flags are `aluRlc`'s, which takes no carry-in. -/
theorem rlcRotatesOperandLeft : Obligations.RlcRotatesOperandLeft := by
  intro i x s hi hm
  obtain ⟨t, ht, hres, hflags⟩ := rlcOperand_writes (updated_ne_imm8 (.inr (.inr hi))) hm
  exact ⟨t, (exec_rlc hi).trans ht, hres.trans (aluRlc_res_toNat _), hflags.trans (aluRlc_flags _)⟩

end Sys2Proof.Machine
end

section
/-! The statements of 45_control.md. NOP and an unmapped encoding that completes leave the state as it was, and HALT enters
Halted; the step then advances pc by 1, which halts a running core at the top and moves pc alone in a halted one. -/

namespace Sys2Proof.Machine

/-! ### What the control instructions leave (45_control.md R270, R272; 60_exceptions.md R303) -/

/-- A next state of NOP, HALT or an unmapped encoding. -/
theorem exec_control_next {i : Instr} {s t : State} (h : exec i s = .next t)
    (hi : i.shape = .nop ∨ i.shape = .halt ∨ ∃ op ext, i.shape = .unknown op ext) :
    t = s ∨ (i.shape = .halt ∧ t = s.enterHalt .haltOpcode) := by
  obtain hi | hi | ⟨op, ext, hi⟩ := hi
  · rw [exec_nop hi] at h
    cases h
    exact .inl rfl
  · rw [exec_halt hi] at h
    cases h
    exact .inr ⟨hi, rfl⟩
  · exact .inl (unmapped_next (exec_unknown hi ▸ h))

/-- Settles O35: the next state is the same one, or for HALT that one Halted. -/
theorem controlFrame : Obligations.ControlFrame := by
  intro i s t h hi
  obtain rfl | ⟨hhalt, rfl⟩ := exec_control_next h hi
  · exact ⟨fun _ => rfl, rfl, fun _ => rfl, rfl, rfl, fun _ => ⟨rfl, rfl⟩⟩
  · exact ⟨s.enterHalt_reg _, rfl, s.enterHalt_readByte _, rfl, rfl, fun hne => absurd hhalt hne⟩

/-! ### The step of an instruction known by its first byte (40_step.md R120 to R125) -/

theorem step_of_byte0 {b0 : Byte} {i : Instr} {len : Nat} {s u : State} (hd : ∀ b1, decode b0 b1 = ⟨i, len⟩)
    (hs : s.halted = false) (hb : s.readByte s.pc = b0) (hu : exec i s = .next u) : step s = .next (u.advance len) := by
  have hf : s.fetchDecode = ⟨i, len⟩ := by rw [State.fetchDecode, hb, hd]
  rw [step_of_exec hs (by rw [hf]; exact hu), hf]

theorem State.advance_of_passes_top {s : State} {len : Nat} (hs : s.halted = false) (h : 0xFFFF < s.pc.toNat + len) :
    s.advance len = { s with pc := wrap16 (s.pc.toNat + len), halted := true, haltReason := .pcOverflow } :=
  if_pos ⟨h, hs⟩

theorem State.advance_of_halted {s : State} (hs : s.halted = true) (len : Nat) :
    s.advance len = { s with pc := wrap16 (s.pc.toNat + len) } :=
  if_neg fun h => Bool.false_ne_true (h.2.symm.trans hs)

theorem decode_nop (b1 : Byte) : decode 0x00 b1 = ⟨.nop, 1⟩ := decode_base b1 (by decide)

theorem decode_halt (b1 : Byte) : decode 0x76 b1 = ⟨.halt, 1⟩ := decode_base b1 (by decide)

/-- Settles O28: the step is the advance by 1 alone, and 0xFFFF + 1 passes the top. -/
theorem nopDoesNothingThenStepAdvancesPc : Obligations.NopDoesNothingThenStepAdvancesPc := by
  have hstep : ∀ s : State, s.halted = false → s.readByte s.pc = 0x00 → step s = .next (s.advance 1) :=
    fun s hs hb => step_of_byte0 decode_nop hs hb (exec_nop rfl)
  refine ⟨fun s => exec_nop rfl, decode_nop, hstep, fun s hs hb hpc => ?_⟩
  rw [hstep s hs hb, State.advance_of_passes_top hs (by rw [hpc]; decide), hpc]
  rfl

/-- Settles O29: the core is Halted before the advance, which then moves pc alone, and a halted core's step is a no-op. -/
theorem haltEntersHaltedWithHaltOpcode : Obligations.HaltEntersHaltedWithHaltOpcode := by
  refine ⟨fun s => exec_halt rfl, decode_halt, fun s hs hb => ⟨_, rfl, ?_, step_halted rfl⟩⟩
  rw [step_of_byte0 decode_halt hs hb (exec_halt rfl), State.advance_of_halted (s.enterHalt_halted _), ← nextAddr_eq]
  rfl

end Sys2Proof.Machine
end

section
/-! The statements of 60_exceptions.md. The fetched bytes fix an unmapped encoding's operands and length; the policy then
decides between the error, which leaves no next state, and the bare advance of pc. -/

namespace Sys2Proof.Machine

/-- An unmapped encoding names the bytes it was decoded from, its second byte on the CB page alone, where it is two bytes
long (30_encoding.md R99, R100). -/
theorem decode_of_shape_unknown {b0 b1 op : Byte} {ext : Option Byte}
    (h : (decode b0 b1).instr.shape = .unknown op ext) :
    op = b0 ∧ ext = (if op = 0xCB then some b1 else none) ∧ (decode b0 b1).len = if ext = none then 1 else 2 := by
  obtain hmem | ⟨rfl, hle⟩ := unmapped_of_decode_unknown h
  · rw [decode_of_unmapped b1 hmem] at h ⊢
    cases h
    exact ⟨rfl, (if_neg (ne_of_mem_of_not_mem hmem page_notMem_unmappedOpcodes)).symm, rfl⟩
  · rw [decode_page, decodeCB_of_unmapped hle] at h ⊢
    cases h
    exact ⟨rfl, rfl, rfl⟩

theorem exec_unknown_of_permissive {i : Instr} {op : Byte} {ext : Option Byte} {s : State}
    (hi : i.shape = .unknown op ext) (hp : s.unknownPolicy = .permissive) : exec i s = .next s := by
  rw [exec_unknown hi, unmapped, hp]

theorem run_of_step_fault {s : State} {e : Fault} (h : step s = .fault e) (es : List Event) :
    run (.step :: es) s = .faulted e s := by
  rw [run, h]

/-- Settles O30: the step's error is `exec`'s, raised with the two bytes at pc, and a faulted run holds no later state. -/
theorem unknownOpcodeStrictRaises : Obligations.UnknownOpcodeStrictRaises := by
  intro s op ext hs hp hi
  have hstep : step s = .fault (.unknownOpcode op ext s.pc) :=
    step_fault_iff.mpr ⟨hs, exec_fault_iff.mpr ⟨hp, op, ext, hi, rfl⟩⟩
  obtain ⟨hop, hext, -⟩ := decode_of_shape_unknown hi
  exact ⟨hstep, rfl, hop, hext, run_of_step_fault hstep⟩

/-- Settles O31: the step is the advance alone, by the encoding's length. -/
theorem unknownOpcodePermissiveSkips : Obligations.UnknownOpcodePermissiveSkips := by
  refine ⟨fun i op ext s => exec_unknown_of_permissive, fun s op ext hs hp hi => ?_⟩
  have hstep := step_of_exec hs (exec_unknown_of_permissive hi hp)
  obtain ⟨-, -, hlen⟩ := decode_of_shape_unknown hi
  rw [State.fetchDecode, hlen] at hstep
  have hhalted := s.advance_halted (if ext = none then 1 else 2)
  rw [hs, or_iff_right Bool.false_ne_true] at hhalted
  refine ⟨_, hstep, s.advance_regs _, s.advance_readByte _, by rw [State.advance_pc, wrap16_toNat], ?_,
    fun ht => ?_, fun ht => ?_⟩
  · rw [Bool.eq_iff_iff, decide_eq_true_iff]
    exact hhalted
  · rw [State.advance_haltReason, if_pos ⟨hhalted.mp ht, hs⟩]
  · rw [State.advance_haltReason, if_neg]
    exact fun htop => Bool.false_ne_true (ht.symm.trans (hhalted.mpr htop.1))

end Sys2Proof.Machine
end
